-- ==== Sys2Proof/Word.lean ====
section
/-! DEFINITION. The words of the packet codec core (00_scope.md R8, R9): a byte, the 16-bit and the 64-bit
value, and finite byte sequences. Nothing in the block is signed (R8). -/

namespace Sys2Proof

/-- `u8` of 00_scope.md R8; a character of a text is one too (20_memory.md R64, 00_scope.md R11). -/
abbrev Byte := BitVec 8

/-- `u16` of 00_scope.md R8: a CRC value. -/
abbrev Word16 := BitVec 16

/-- `u64` of 00_scope.md R8: a request or response word. -/
abbrev Word64 := BitVec 64

/-- `Bytes` and `Text` of 00_scope.md R9: element 0 is the first on the wire (20_memory.md R62). -/
abbrev Bytes := List Byte

end Sys2Proof
end

