-- ==== Sys2Proof/Config.lean ====
section
/-! DEFINITION. The constants of the protocol (00_scope.md R6, R7). No request, reset or configuration
changes one (70_reset_and_hazards.md R273). The one parameter the spec leaves open, PAYLOAD_MAX, is no constant:
it stands in State as `payloadMax` (log 4), so that every statement holds for every value of it. The spec leaves
no other value open, so no opaque constant stands here. -/

namespace Sys2Proof.Config

/-- START, the start sentinel (00_scope.md R6). -/
def start : Byte := 0xAA#8
/-- STOP, the stop sentinel (00_scope.md R6). -/
def stop : Byte := 0xFF#8
/-- CRC_POLY: XORed into the register when a 1 is shifted out (00_scope.md R6). -/
def crcPoly : Word16 := 0x8005#16
/-- CRC_INIT: the register's value at the start of a CRC16 computation (00_scope.md R6). -/
def crcInit : Word16 := 0xFFFF#16
/-- LEN_BIAS: `length - len(data)` (00_scope.md R6). -/
def lenBias : Nat := 3
/-- LEN_MAX: the largest `length` (00_scope.md R6). -/
def lenMax : Nat := 255
/-- DATA_MAX: the most data bytes encode accepts (00_scope.md R6). -/
def dataMax : Nat := 252
/-- MIN_FRAME: fewer bytes than this are FrameTooShort (00_scope.md R6, 90_conflicts.md C2). -/
def minFrame : Nat := 7
/-- ENC_FRAME_MAX: the largest frame FRAME emits, in bytes (00_scope.md R6). -/
def encFrameMax : Nat := 259
/-- ENC_TEXT_MAX: the largest text ENCODE emits, in characters; PAYLOAD_MAX is at least this (R6, 20_memory.md R68). -/
def encTextMax : Nat := 776

end Sys2Proof.Config
end

