-- ==== Sys2Proof/Syntax.lean ====
section
/-! DEFINITION. The syntax of the interface: the request (10_state.md R33) and the twelve operations a request word
can select (30_encoding.md R82), each with exactly the operand fields it uses (30_encoding.md R86). -/

namespace Sys2Proof

/-- A request as it stands at the interface (10_state.md R33): the 64-bit word of 30_encoding.md R80 and the payload
beside it. The payload's length is part of the request; the word carries no length (R33, 30_encoding.md R87). -/
structure Request where
  word : Word64
  payload : Bytes
  deriving DecidableEq, Repr

/-- The operations (30_encoding.md R82). An operand has the width of its field, so that every term is one a request
word can spell (92_eei_decisions.md D28 makes a direction of 2 unrepresentable); a field or payload an operation does not use is
no part of it (30_encoding.md R85). The payload is the request's and is read from State (log 10). -/
inductive Instr where
  /-- OP 0x0, 40_crc.md R123. -/
  | crc16
  /-- OP 0x1, 40_crc.md R124: register value in `A16`, byte in `A0`. -/
  | crcStep (a16 : Word16) (a0 : Byte)
  /-- OP 0x2, 41_fields.md R142: direction in `DIR`, busNumber in `A1`. -/
  | pack (dir : BitVec 1) (a1 : Byte)
  /-- OP 0x3, 41_fields.md R143: the combined byte in `A0`. -/
  | unpack (a0 : Byte)
  /-- OP 0x4, 42_hex.md R161: the byte in `A0`. -/
  | hexencByte (a0 : Byte)
  /-- OP 0x5, 42_hex.md R164. -/
  | hexdecToken
  /-- OP 0x6, 42_hex.md R166. -/
  | hexencLine
  /-- OP 0x7, 42_hex.md R167. -/
  | hexdecLine
  /-- OP 0x8, 43_framer.md R191: signalType in `A0`, direction in `DIR`, busNumber in `A1`. -/
  | frame (a0 : Byte) (dir : BitVec 1) (a1 : Byte)
  /-- OP 0x9, 43_framer.md R194. -/
  | deframe
  /-- OP 0xA, 43_framer.md R195: operands as FRAME. -/
  | encode (a0 : Byte) (dir : BitVec 1) (a1 : Byte)
  /-- OP 0xB, 43_framer.md R196. -/
  | decode
  deriving DecidableEq, Repr

end Sys2Proof
end

