-- ==== Sys2Proof/WellFormed.lean ====
section
/-! DEFINITION. What makes a request well formed, check by check, written from the bit ranges of 30_encoding.md R80 (the
decoder tests the mask of R80 instead; that the two agree is a statement, not a definition). A term of `Instr` needs
no check: its operands have the widths of their fields. -/

namespace Sys2Proof

/-- The reserved bits 63:48, 31:25 and 7:4 are 0 (30_encoding.md R80, R84). -/
def reservedBitsClear (w : Word64) : Bool :=
  w.extractLsb' 48 16 == 0#16 && w.extractLsb' 25 7 == 0#7 && w.extractLsb' 4 4 == 0#4

/-- `OP`, bits 3:0, is one of 0x0 to 0xB (30_encoding.md R82, R83). -/
def opDefined (w : Word64) : Bool :=
  decide ((w.extractLsb' 0 4).toNat < 12)

/-- A request word that spells an operation (30_encoding.md R83, R84). -/
def requestWordOk (w : Word64) : Bool :=
  reservedBitsClear w && opDefined w

/-- A payload an implementation with parameter `max` can hold (20_memory.md R68); `none` is unbounded (00_scope.md R6). -/
def payloadFits (max : Option Nat) (p : Bytes) : Bool :=
  match max with
  | none => true
  | some m => decide (p.length ≤ m)

/-- A legal value of PAYLOAD_MAX: unbounded, or at least ENC_TEXT_MAX (20_memory.md R68). -/
def payloadMaxLegal (max : Option Nat) : Bool :=
  match max with
  | none => true
  | some m => decide (Config.encTextMax ≤ m)

/-- A request that gets a response other than IllegalOp: its word spells an operation and its payload fits. -/
def Request.wellFormed (max : Option Nat) (r : Request) : Bool :=
  requestWordOk r.word && payloadFits max r.payload

end Sys2Proof
end

