-- ==== Sys2Proof/Decode.lean ====
section
/-! DEFINITION. The request word (30_encoding.md R80): its fields, the decoder, total on any 64 bits, and the encoder
that writes an operation's word with every ignored field and reserved bit 0 (30_encoding.md R97). -/

namespace Sys2Proof

/-- `OP = w[3:0]` (30_encoding.md R80). -/
def reqOp (w : Word64) : BitVec 4 := w.extractLsb' 0 4
/-- `A0 = w[15:8]` (30_encoding.md R80). -/
def reqA0 (w : Word64) : Byte := w.extractLsb' 8 8
/-- `A1 = w[23:16]` (30_encoding.md R80). -/
def reqA1 (w : Word64) : Byte := w.extractLsb' 16 8
/-- `DIR = w[24:24]` (30_encoding.md R80). -/
def reqDir (w : Word64) : BitVec 1 := w.extractLsb' 24 1
/-- `A16 = w[47:32]` (30_encoding.md R80). -/
def reqA16 (w : Word64) : Word16 := w.extractLsb' 32 16
/-- The mask of the 27 reserved bits (30_encoding.md R80). -/
def rsvMask : Word64 := 0xFFFF0000FE0000F0#64
/-- `RSV = w & 0xFFFF0000FE0000F0` (30_encoding.md R80). -/
def reqRsv (w : Word64) : Word64 := w &&& rsvMask

/-- Why a word spells no operation. Both end in the one error IllegalOp, which "records nothing about which bit or code
was wrong" (60_exceptions.md R242). -/
inductive DecodeError where
  /-- a reserved bit is set (30_encoding.md R84) -/
  | reservedBits
  /-- `OP` is 0xC to 0xF (30_encoding.md R83) -/
  | reservedOp
  deriving DecidableEq, Repr

/-- Decoding a request word (30_encoding.md R82 to R86). -/
def decode (w : Word64) : Except DecodeError Instr :=
  if reqRsv w ≠ 0#64 then .error .reservedBits
  else
    match reqOp w with
    | 0x0#4 => .ok .crc16
    | 0x1#4 => .ok (.crcStep (reqA16 w) (reqA0 w))
    | 0x2#4 => .ok (.pack (reqDir w) (reqA1 w))
    | 0x3#4 => .ok (.unpack (reqA0 w))
    | 0x4#4 => .ok (.hexencByte (reqA0 w))
    | 0x5#4 => .ok .hexdecToken
    | 0x6#4 => .ok .hexencLine
    | 0x7#4 => .ok .hexdecLine
    | 0x8#4 => .ok (.frame (reqA0 w) (reqDir w) (reqA1 w))
    | 0x9#4 => .ok .deframe
    | 0xA#4 => .ok (.encode (reqA0 w) (reqDir w) (reqA1 w))
    | 0xB#4 => .ok .decode
    | _ => .error .reservedOp

/-- A request word from its fields, every reserved bit 0 (30_encoding.md R80), most significant field first. -/
def requestWord (op : BitVec 4) (a0 a1 : Byte) (dir : BitVec 1) (a16 : Word16) : Word64 :=
  0#16 ++ a16 ++ 0#7 ++ dir ++ a1 ++ a0 ++ 0#4 ++ op

/-- The word of an operation, its ignored fields 0 (30_encoding.md R82, R85, R97). -/
def encode : Instr → Word64
  | .crc16 => requestWord 0x0#4 0#8 0#8 0#1 0#16
  | .crcStep a16 a0 => requestWord 0x1#4 a0 0#8 0#1 a16
  | .pack dir a1 => requestWord 0x2#4 0#8 a1 dir 0#16
  | .unpack a0 => requestWord 0x3#4 a0 0#8 0#1 0#16
  | .hexencByte a0 => requestWord 0x4#4 a0 0#8 0#1 0#16
  | .hexdecToken => requestWord 0x5#4 0#8 0#8 0#1 0#16
  | .hexencLine => requestWord 0x6#4 0#8 0#8 0#1 0#16
  | .hexdecLine => requestWord 0x7#4 0#8 0#8 0#1 0#16
  | .frame a0 dir a1 => requestWord 0x8#4 a0 a1 dir 0#16
  | .deframe => requestWord 0x9#4 0#8 0#8 0#1 0#16
  | .encode a0 dir a1 => requestWord 0xA#4 a0 a1 dir 0#16
  | .decode => requestWord 0xB#4 0#8 0#8 0#1 0#16

/-- The instruction the decoder reads from a word given as a number of `nbits` bits, bits above them 0. A request
word is a value, not a byte sequence (20_memory.md R65), so the number is the word (log 11). -/
def decodeTableWord (nbits w : Nat) : Option Instr :=
  match decode (BitVec.ofNat 64 (w % 2 ^ nbits)) with
  | .ok i => some i
  | .error _ => none

end Sys2Proof
end

