-- ==== Sys2Proof/Machine/State.lean ====
section
/-! DEFINITION. The state of the packet codec core. The block keeps nothing from one request to the next
(10_state.md R30, R31); what there is to hold is the interface (the request in flight, the response delivered, a reset that has
arrived), the working values of one transaction (R41) and the open parameter PAYLOAD_MAX (00_scope.md R6). There is no
memory, register file, program counter, mode or exception register (R31, R32, 20_memory.md R60, 60_exceptions.md R250, R251). -/

namespace Sys2Proof.Machine

/-- The seven error kinds (30_encoding.md R88, 60_exceptions.md R241). -/
inductive ErrorKind where
  /-- code 1: `3 + len(data) > 255` -/
  | lengthOverflow
  /-- code 2: a token is not exactly two hex digits -/
  | malformedToken
  /-- code 3: fewer than 7 bytes -/
  | frameTooShort
  /-- code 4: start or stop byte wrong -/
  | badSentinel
  /-- code 5: `L < 3` or `L + 4 > n` -/
  | lengthMismatch
  /-- code 6: CRC mismatch -/
  | integrityError
  /-- code 7: reserved `OP` or reserved bit set -/
  | illegalOp
  deriving DecidableEq, Repr

/-- The response's STATUS: `OK` or an error kind (10_state.md R34). Codes 8 to 15 are never returned (30_encoding.md R88, R99):
they are no term of this type. -/
inductive Status where
  | ok
  | error (e : ErrorKind)
  deriving DecidableEq, Repr

/-- A response (10_state.md R34). "A field an operation does not write is 0": the defaults are those zeros. -/
structure Response where
  status : Status := .ok
  y0 : Byte := 0#8
  y1 : Byte := 0#8
  yc : Byte := 0#8
  y16 : Word16 := 0#16
  bus7 : BitVec 7 := 0#7
  diro : BitVec 1 := 0#1
  dirref : BitVec 1 := 0#1
  payloadOut : Bytes := []
  deriving DecidableEq, Repr

/-- A Packet (10_state.md R35): an immutable value, never kept by the block (R37). -/
structure Packet where
  start : Byte
  length : Byte
  signalType : Byte
  combined : Byte
  direction : BitVec 1
  busNumber : BitVec 7
  data : Bytes
  crc : Word16
  stop : Byte
  deriving DecidableEq, Repr

/-- The fields a received frame is parsed into (10_state.md R41 (c), 43_framer.md R193): `L`, `T`, `C`, `data` and the received CRC. -/
structure ParsedFrame where
  length : Byte
  signalType : Byte
  combined : Byte
  data : Bytes
  rx : Word16
  deriving DecidableEq, Repr

/-- The working values of one transaction (10_state.md R41). -/
structure Work where
  /-- the 16-bit CRC register, R41 (a) -/
  crc : Word16
  /-- the byte sequence a line decodes to, R41 (b) -/
  line : Bytes
  /-- the fields of a received frame, R41 (c) -/
  frame : ParsedFrame
  deriving DecidableEq, Repr

/-- The working values outside a transaction. The spec leaves them unspecified and unobservable (70_reset_and_hazards.md R270).
DESIGN CHOICE (log 6), unsafe: the model has them all zero. -/
def Work.idle : Work :=
  { crc := 0#16, line := [], frame := { length := 0#8, signalType := 0#8, combined := 0#8, data := [], rx := 0#16 } }

/-- The state. -/
structure State where
  /-- the request in flight: accepted on the interface and not yet answered (10_state.md R33, 60_exceptions.md R254 (a)) -/
  request : Option Request
  /-- the response delivered last; none before the first and after a reset (10_state.md R34, log 7) -/
  response : Option Response
  /-- the transaction-local working values (10_state.md R41) -/
  work : Work
  /-- the model's own field (log 3): a reset has arrived and is served by the next step (70_reset_and_hazards.md R271; a request
  issued while it waits: log 18) -/
  resetPending : Bool
  /-- PAYLOAD_MAX, none when unbounded: a parameter that no step writes (00_scope.md R6, 20_memory.md R68, log 4) -/
  payloadMax : Option Nat
  deriving DecidableEq, Repr

/-- Right after reset (70_reset_and_hazards.md R270 to R272): nothing in flight, no response given, reset released, PAYLOAD_MAX at
its default (00_scope.md R6). -/
def State.reset : State :=
  { request := none, response := none, work := Work.idle, resetPending := false, payloadMax := none }

/-- Why the machine stops with a fault: never. "No error raises a trap" (60_exceptions.md R240), there is "no internal fault"
(R241) and every branch is total (43_framer.md R193 note 5), so the type has no constructor. -/
inductive Fault where
  deriving DecidableEq, Repr

/-- Why the model refuses. -/
inductive Refusal where
  /-- raised by an arm of `exec` for an instruction that has no meaning yet (none is left); safe: no claim covers a refused step -/
  | notModelled (mnemonic : String)
  /-- raised by `step` alone, for a payload of `length` bytes over PAYLOAD_MAX `max` (20_memory.md R68: "The model refuses it: it gives no
  response and records the refusal"; 93_implementation_defined.md item 8); safe: such a request is outside the spec -/
  | payloadOverMax (length max : Nat)
  deriving DecidableEq, Repr

end Sys2Proof.Machine
end

