-- ==== Sys2Proof/Machine/Codec.lean ====
section
/-! DEFINITION. The spec's named pure functions (00_scope.md R10), each written from its rule: CRC-16 (40_crc.md), the field
packer (41_fields.md), the hex codec (42_hex.md), and the frame layout and its parsing (43_framer.md). The last section has
the functions of a whole request, R5's "total function of the request": the meanings, which work through the
working registers, are held to them by the statements. -/

namespace Sys2Proof.Machine

/-! ### CRC-16 (40_crc.md) -/

/-- One iteration of 40_crc.md R120: the bit tested is the one shifted out; the shift comes first, then the XOR. -/
def crcBit (r : Word16) : Word16 :=
  if r.getLsbD 0 then (r >>> 1) ^^^ Config.crcPoly else r >>> 1

/-- `n` iterations of `crcBit`. -/
def crcBits : Nat → Word16 → Word16
  | 0, r => r
  | n + 1, r => crcBits n (crcBit r)

/-- `CRC_UPDATE` (40_crc.md R120): the byte lands in bits 7:0, then 8 iterations. -/
def crcUpdate (crc : Word16) (b : Byte) : Word16 :=
  crcBits 8 (crc ^^^ b.setWidth 16)

/-- `CRC16` (40_crc.md R121): from CRC_INIT through the bytes in index order, the register unchanged at the end. -/
def crc16 (s : Bytes) : Word16 :=
  s.foldl crcUpdate Config.crcInit

/-! ### The combined byte (41_fields.md) -/

/-- `PACK` (41_fields.md R140): direction in bit 7, the low 7 bits of busNumber in bits 6:0. -/
def pack (d : BitVec 1) (bus : Byte) : Byte :=
  (d.setWidth 8 <<< 7) ||| (bus &&& 0x7F#8)

/-- Canonical direction, `C[7:7]` (41_fields.md R141, 90_conflicts.md C1). -/
def unpackDir (c : Byte) : BitVec 1 := c.extractLsb' 7 1
/-- Canonical busNumber, `C[6:0]` (41_fields.md R141). -/
def unpackBus (c : Byte) : BitVec 7 := c.extractLsb' 0 7
/-- Reference-interpretation direction, `C[0:0]` (41_fields.md R141). -/
def unpackDirRef (c : Byte) : BitVec 1 := c.extractLsb' 0 1
/-- Reference-interpretation busNumber, the full byte (41_fields.md R141). -/
def unpackBusRaw (c : Byte) : Byte := c

/-! ### Hex text (42_hex.md) -/

/-- `DIGIT` (42_hex.md R160, 30_encoding.md R95): uppercase ASCII. -/
def digit (v : BitVec 4) : Byte :=
  if v.toNat ≤ 9 then 0x30#8 + v.setWidth 8 else 0x41#8 + (v.setWidth 8 - 10#8)

/-- `HEXBYTE` (42_hex.md R160): the high nibble's digit first. -/
def hexByte (b : Byte) : Bytes :=
  [digit (b.extractLsb' 4 4), digit (b.extractLsb' 0 4)]

/-- `DIGVAL` (42_hex.md R162): either case is accepted (92_eei_decisions.md D12). -/
def digVal (ch : Byte) : Option (BitVec 4) :=
  if 0x30 ≤ ch.toNat ∧ ch.toNat ≤ 0x39 then some (BitVec.ofNat 4 (ch.toNat - 0x30))
  else if 0x41 ≤ ch.toNat ∧ ch.toNat ≤ 0x46 then some (BitVec.ofNat 4 (ch.toNat - 0x41 + 10))
  else if 0x61 ≤ ch.toNat ∧ ch.toNat ≤ 0x66 then some (BitVec.ofNat 4 (ch.toNat - 0x61 + 10))
  else none

/-- `HEXTOK` (42_hex.md R163): exactly two hex digits, the first the high nibble; none is MALFORMED. -/
def hexTok : Bytes → Option Byte
  | [h, l] =>
    match digVal h, digVal l with
    | some hi, some lo => some (hi ++ lo)
    | _, _ => none
  | _ => none

/-- The six white-space codes (30_encoding.md R96). -/
def isSpace (ch : Byte) : Bool :=
  ch == 0x09#8 || ch == 0x0A#8 || ch == 0x0B#8 || ch == 0x0C#8 || ch == 0x0D#8 || ch == 0x20#8

/-- The loop of `TOKENS` (42_hex.md R165) with `cur` the token being read. -/
def tokensFrom (cur : Bytes) : Bytes → List Bytes
  | [] => if cur = [] then [] else [cur]
  | ch :: rest =>
    if isSpace ch then
      if cur = [] then tokensFrom [] rest else cur :: tokensFrom [] rest
    else tokensFrom (cur ++ [ch]) rest

/-- `TOKENS` (42_hex.md R165): the maximal non-empty runs of non-whitespace characters, in order. -/
def tokens (s : Bytes) : List Bytes := tokensFrom [] s

/-- `HEXLINE` (42_hex.md R166): one 0x20 between tokens, no terminator (30_encoding.md R94). -/
def hexLine : Bytes → Bytes
  | [] => []
  | b :: rest => hexByte b ++ rest.flatMap (fun c => 0x20#8 :: hexByte c)

/-- The bytes of a list of tokens; none as soon as one is MALFORMED (42_hex.md R167). -/
def hexToks : List Bytes → Option Bytes
  | [] => some []
  | t :: rest =>
    match hexTok t with
    | none => none
    | some v =>
      match hexToks rest with
      | none => none
      | some vs => some (v :: vs)

/-- `HEXBYTES` (42_hex.md R167); none is MALFORMED. -/
def hexBytes (s : Bytes) : Option Bytes := hexToks (tokens s)

/-! ### Frames (43_framer.md) -/

/-- A Packet from its wire fields: sentinels constant, direction and busNumber always `UNPACK(C)` (10_state.md R35). -/
def Packet.ofWire (l t c : Byte) (data : Bytes) (crc : Word16) : Packet :=
  { start := Config.start, length := l, signalType := t, combined := c, direction := unpackDir c,
    busNumber := unpackBus c, data := data, crc := crc, stop := Config.stop }

/-- `L = 3 + len(data)` as a byte (43_framer.md R190; used only where the sum is at most 255). -/
def lengthByte (data : Bytes) : Byte := BitVec.ofNat 8 (Config.lenBias + data.length)

/-- What the CRC covers: `[L, T, C] ++ data` (30_encoding.md R92). -/
def crcInput (l t c : Byte) (data : Bytes) : Bytes := l :: t :: c :: data

/-- `WIRE` (43_framer.md R192): the CRC high byte first (20_memory.md R63). -/
def wire (p : Packet) : Bytes :=
  [Config.start, p.length, p.signalType, p.combined] ++ p.data
    ++ [p.crc.extractLsb' 8 8, p.crc.extractLsb' 0 8, Config.stop]

/-- Byte `i` of a sequence. Every use is in range (43_framer.md R193 note 5), so the default is never read (log 13). -/
def byteAt (b : Bytes) (i : Nat) : Byte := b.getD i 0#8

/-- Steps 2 to 5 of `DEFRAMEFN` (43_framer.md R193): every check but the CRC's, in the rule's order. -/
def parseFrame (b : Bytes) : Except ErrorKind ParsedFrame :=
  let n := b.length
  if n < Config.minFrame then .error .frameTooShort
  else if byteAt b 0 ≠ Config.start ∨ byteAt b (n - 1) ≠ Config.stop then .error .badSentinel
  else if (byteAt b 1).toNat < Config.lenBias then .error .lengthMismatch
  else if (byteAt b 1).toNat + 4 > n then .error .lengthMismatch
  else .ok { length := byteAt b 1, signalType := byteAt b 2, combined := byteAt b 3,
             data := (b.drop 4).take ((byteAt b 1).toNat - Config.lenBias),
             rx := byteAt b (n - 3) ++ byteAt b (n - 2) }

/-! ### A whole request as a pure function (00_scope.md R5, R10) -/

/-- `FRAMEFN` (43_framer.md R190): the length check first, on the exact sum. -/
def frameFn (t : Byte) (d : BitVec 1) (bus : Byte) (data : Bytes) : Except ErrorKind Packet :=
  if Config.lenBias + data.length > Config.lenMax then .error .lengthOverflow
  else
    let l := lengthByte data
    let c := pack d bus
    .ok (Packet.ofWire l t c data (crc16 (crcInput l t c data)))

/-- `DEFRAMEFN` (43_framer.md R193). -/
def deframeFn (b : Bytes) : Except ErrorKind Packet :=
  match parseFrame b with
  | .error e => .error e
  | .ok f =>
    if crc16 (crcInput f.length f.signalType f.combined f.data) ≠ f.rx then .error .integrityError
    else .ok (Packet.ofWire f.length f.signalType f.combined f.data f.rx)

end Sys2Proof.Machine
end

