-- ==== Sys2Proof/Machine/Operands.lean ====
section
/-! DEFINITION. Operand and result assembly (30_encoding.md R86): the one operand that is not a field of the word, the
payload, and the result groups the operations write. The block has no flags (10_state.md R31), so the package has no file
of flag computations; the status of a response is a field of that response. -/

namespace Sys2Proof.Machine

/-- `Payload` (00_scope.md R10): the payload of the request in flight; with none in flight, which no step lets a meaning see, empty (log 16). -/
def State.payload (s : State) : Bytes :=
  match s.request with
  | some r => r.payload
  | none => []

/-- The error response of a kind: every field but the status 0, no output payload (60_exceptions.md R246). -/
def Response.ofError (e : ErrorKind) : Response := { status := .error e }

/-- The result of CRC16 and CRC_STEP (40_crc.md R123, R124). -/
def Response.ofCrc (v : Word16) : Response := { y16 := v }

/-- The result of PACK and UNPACK from the combined byte (41_fields.md R142, R143). -/
def Response.ofCombined (c : Byte) : Response :=
  { yc := unpackBusRaw c, bus7 := unpackBus c, diro := unpackDir c, dirref := unpackDirRef c }

/-- A Packet in a response, with the output payload beside it (10_state.md R38). -/
def Response.ofPacket (p : Packet) (out : Bytes) : Response :=
  { y0 := p.length, y1 := p.signalType, yc := p.combined, y16 := p.crc, bus7 := p.busNumber, diro := p.direction,
    dirref := unpackDirRef p.combined, payloadOut := out }

/-- The numeric codes of the error kinds (30_encoding.md R88). -/
def ErrorKind.code : ErrorKind → BitVec 4
  | .lengthOverflow => 1#4
  | .malformedToken => 2#4
  | .frameTooShort => 3#4
  | .badSentinel => 4#4
  | .lengthMismatch => 5#4
  | .integrityError => 6#4
  | .illegalOp => 7#4

/-- The numeric code of a status (30_encoding.md R88). -/
def Status.code : Status → BitVec 4
  | .ok => 0#4
  | .error e => e.code

/-- The response word (30_encoding.md R81), most significant field first; bits 63:58, 55 and 7:4 are always 0. -/
def Response.word (r : Response) : Word64 :=
  0#6 ++ r.dirref ++ r.diro ++ 0#1 ++ r.bus7 ++ r.y16 ++ r.yc ++ r.y1 ++ r.y0 ++ 0#4 ++ r.status.code

end Sys2Proof.Machine
end

