-- ==== Sys2Proof/Machine/Ops.lean ====
section
/-! DEFINITION. The shared operations over State: the CRC register and the other working values of a transaction
(10_state.md R41), answering a request, answering it with an error (the block has no exceptions: an error is a response,
60_exceptions.md R240, and this ONE operation gives all of them), and reset. -/

namespace Sys2Proof.Machine

/-! ### The working registers (10_state.md R41) -/

/-- Load the CRC register (R41 (a): CRC_INIT for CRC16, `A16` for CRC_STEP). -/
def State.loadCrc (v : Word16) (s : State) : State :=
  { s with work := { s.work with crc := v } }

/-- One per-byte update of the CRC register (40_crc.md R120). -/
def State.feedCrc (b : Byte) (s : State) : State :=
  { s with work := { s.work with crc := crcUpdate s.work.crc b } }

/-- A whole CRC16 computation in the register: loaded with CRC_INIT, then fed the bytes in index order (40_crc.md R121). -/
def State.runCrc (bs : Bytes) (s : State) : State :=
  bs.foldl (fun t b => t.feedCrc b) (s.loadCrc Config.crcInit)

/-- Hold the bytes a line decodes to (R41 (b)). -/
def State.latchLine (bs : Bytes) (s : State) : State :=
  { s with work := { s.work with line := bs } }

/-- Hold the fields a received frame is parsed into (R41 (c)). -/
def State.latchFrame (f : ParsedFrame) (s : State) : State :=
  { s with work := { s.work with frame := f } }

/-! ### Answering -/

/-- Deliver the response to the request in flight: the transaction ends, and no working value survives it (R41; log 6). -/
def State.respond (r : Response) (s : State) : State :=
  { s with request := none, response := some r, work := Work.idle }

/-- Answer with an error kind (60_exceptions.md R240, R246): the shared operation in the place of taking an exception. There is no
return from it to model: the block goes on with the next request (R247, R250). -/
def State.respondError (e : ErrorKind) (s : State) : State :=
  s.respond (Response.ofError e)

/-- Serve a reset that has arrived (70_reset_and_hazards.md R271): a request in flight is abandoned without a response. PAYLOAD_MAX is
a parameter of the implementation, which reset does not set (log 3). -/
def State.applyReset (s : State) : State :=
  { State.reset with payloadMax := s.payloadMax }

/-! ### The framer's two paths (43_framer.md R190, R193), shared by FRAME and ENCODE, and by DEFRAME and DECODE -/

/-- Build a frame from the payload and deliver its Packet with `render` of the wire bytes: the length check before any
other work (43_framer.md R190, 60_exceptions.md R245), then `L`, `C`, and the CRC in the CRC register. -/
def State.buildFrame (t : Byte) (d : BitVec 1) (bus : Byte) (render : Bytes → Bytes) (s : State) : State :=
  if Config.lenBias + s.payload.length > Config.lenMax then s.respondError .lengthOverflow
  else
    let l := lengthByte s.payload
    let c := pack d bus
    let run := s.runCrc (crcInput l t c s.payload)
    let p := Packet.ofWire l t c s.payload run.work.crc
    run.respond (Response.ofPacket p (render (wire p)))

/-- Validate frame bytes and deliver the Packet with its data (43_framer.md R193): the fields are latched, the CRC of
`[L, T, C] ++ data` is computed in the CRC register and compared with the received one. -/
def State.checkFrame (b : Bytes) (s : State) : State :=
  match parseFrame b with
  | .error e => s.respondError e
  | .ok f =>
    let run := (s.latchFrame f).runCrc (crcInput f.length f.signalType f.combined f.data)
    let g := run.work.frame
    if run.work.crc ≠ g.rx then run.respondError .integrityError
    else run.respond (Response.ofPacket (Packet.ofWire g.length g.signalType g.combined g.data g.rx) g.data)

end Sys2Proof.Machine
end

