-- ==== Sys2Proof/Machine/Crc.lean ====
section
/-! DEFINITION. The CRC-16 generator's operations (40_crc.md R123, R124). -/

namespace Sys2Proof.Machine

/-- CRC16 (40_crc.md R123): the register runs from CRC_INIT over the payload, of any length, and is read out to `Y16`. -/
def execCrc16 (s : State) : Host.Outcome State Fault Refusal :=
  let run := s.runCrc s.payload
  .next (run.respond (Response.ofCrc run.work.crc))

/-- CRC_STEP (40_crc.md R124): the register is loaded with `A16`, fed the byte `A0` once and read out to `Y16`. The payload is ignored. -/
def execCrcStep (a16 : Word16) (a0 : Byte) (s : State) : Host.Outcome State Fault Refusal :=
  let run := (s.loadCrc a16).feedCrc a0
  .next (run.respond (Response.ofCrc run.work.crc))

end Sys2Proof.Machine
end

