-- ==== Sys2Proof/Machine/Fields.lean ====
section
/-! DEFINITION. The field packer and unpacker (41_fields.md R142, R143). -/

namespace Sys2Proof.Machine

/-- PACK (41_fields.md R142): the combined byte of `DIR` and `A1`, whose bit 7 is dropped without an error. -/
def execPack (dir : BitVec 1) (a1 : Byte) (s : State) : Host.Outcome State Fault Refusal :=
  .next (s.respond (Response.ofCombined (pack dir a1)))

/-- UNPACK (41_fields.md R143): the canonical and the reference interpretation of the combined byte `A0`. -/
def execUnpack (a0 : Byte) (s : State) : Host.Outcome State Fault Refusal :=
  .next (s.respond (Response.ofCombined a0))

end Sys2Proof.Machine
end

