-- ==== Sys2Proof/Machine/Framer.lean ====
section
/-! DEFINITION. The framer and deframer (43_framer.md R191, R194) and the source's two operations (R195, R196). -/

namespace Sys2Proof.Machine

/-- FRAME (43_framer.md R191): `A0` is the signalType, `DIR` the direction, `A1` the busNumber; the output is the frame's bytes. -/
def execFrame (a0 : Byte) (dir : BitVec 1) (a1 : Byte) (s : State) : Host.Outcome State Fault Refusal :=
  .next (s.buildFrame a0 dir a1 (fun b => b))

/-- DEFRAME (43_framer.md R194): the payload is the frame's bytes; the output is its data. -/
def execDeframe (s : State) : Host.Outcome State Fault Refusal :=
  .next (s.checkFrame s.payload)

/-- ENCODE (43_framer.md R195): as FRAME, with the frame's text as the output. -/
def execEncode (a0 : Byte) (dir : BitVec 1) (a1 : Byte) (s : State) : Host.Outcome State Fault Refusal :=
  .next (s.buildFrame a0 dir a1 hexLine)

/-- DECODE (43_framer.md R196): every token of the line is checked before any check of the frame (60_exceptions.md R243). -/
def execDecode (s : State) : Host.Outcome State Fault Refusal :=
  match hexBytes s.payload with
  | none => .next (s.respondError .malformedToken)
  | some b =>
    let held := s.latchLine b
    .next (held.checkFrame held.work.line)

end Sys2Proof.Machine
end

