-- ==== Sys2Proof/Machine/Hex.lean ====
section
/-! DEFINITION. The hex encoder and decoder (42_hex.md R161, R164, R166, R167). -/

namespace Sys2Proof.Machine

/-- HEXENC_BYTE (42_hex.md R161): the high-nibble character in `Y0`, the low-nibble one in `Y1`. -/
def execHexencByte (a0 : Byte) (s : State) : Host.Outcome State Fault Refusal :=
  let t := hexByte a0
  .next (s.respond { y0 := byteAt t 0, y1 := byteAt t 1 })

/-- HEXDEC_TOKEN (42_hex.md R164): the payload is the whole token, neither tokenized nor trimmed. -/
def execHexdecToken (s : State) : Host.Outcome State Fault Refusal :=
  match hexTok s.payload with
  | none => .next (s.respondError .malformedToken)
  | some v => .next (s.respond { y0 := v })

/-- HEXENC_LINE (42_hex.md R166): the payload's bytes as one line of text. -/
def execHexencLine (s : State) : Host.Outcome State Fault Refusal :=
  .next (s.respond { payloadOut := hexLine s.payload })

/-- HEXDEC_LINE (42_hex.md R167): the bytes the line decodes to, or MalformedToken if any token is malformed. -/
def execHexdecLine (s : State) : Host.Outcome State Fault Refusal :=
  match hexBytes s.payload with
  | none => .next (s.respondError .malformedToken)
  | some b =>
    let held := s.latchLine b
    .next (held.respond { payloadOut := held.work.line })

end Sys2Proof.Machine
end

