-- ==== Sys2Proof/Machine/Dispatch.lean ====
section
/-! DEFINITION. One arm per operation, each one direct call of its meaning. -/

namespace Sys2Proof.Machine

def exec (i : Instr) (s : State) : Host.Outcome State Fault Refusal :=
  match i with
  | .crc16 => Sys2Proof.Machine.execCrc16 s
  | .crcStep a16 a0 => Sys2Proof.Machine.execCrcStep a16 a0 s
  | .pack dir a1 => Sys2Proof.Machine.execPack dir a1 s
  | .unpack a0 => Sys2Proof.Machine.execUnpack a0 s
  | .hexencByte a0 => Sys2Proof.Machine.execHexencByte a0 s
  | .hexdecToken => Sys2Proof.Machine.execHexdecToken s
  | .hexencLine => Sys2Proof.Machine.execHexencLine s
  | .hexdecLine => Sys2Proof.Machine.execHexdecLine s
  | .frame a0 dir a1 => Sys2Proof.Machine.execFrame a0 dir a1 s
  | .deframe => Sys2Proof.Machine.execDeframe s
  | .encode a0 dir a1 => Sys2Proof.Machine.execEncode a0 dir a1 s
  | .decode => Sys2Proof.Machine.execDecode s

end Sys2Proof.Machine
end

