-- ==== Sys2Proof/Machine/Transaction.lean ====
section
/-! DEFINITION. One transaction: from the request in flight to its response (00_scope.md R5, 60_exceptions.md R254 (a)). -/

namespace Sys2Proof.Machine

/-- Run a request that stands in flight. The request word is checked before all else, the payload unseen (60_exceptions.md R245,
R242); a payload over PAYLOAD_MAX is refused, whichever the operation (20_memory.md R68; the order of the two is log 5); else the
operation runs. -/
def State.transact (r : Request) (s : State) : Host.Outcome State Fault Refusal :=
  match Sys2Proof.decode r.word with
  | .error _ => .next (s.respondError .illegalOp)
  | .ok i =>
    match s.payloadMax with
    | none => exec i s
    | some max => if r.payload.length ≤ max then exec i s else .refused (.payloadOverMax r.payload.length max)

/-- One step: a reset that has arrived abandons the request in flight (70_reset_and_hazards.md R271), also one that was issued after the reset arrived
(DESIGN CHOICE, log 18: the rules speak only of one in progress then); else the request in flight gets
its one response (00_scope.md R5); with none in flight nothing happens, since "the block acts only when given a request"
(60_exceptions.md R249; log 2). -/
def State.stepOnce (s : State) : Host.Outcome State Fault Refusal :=
  if s.resetPending then .next s.applyReset
  else
    match s.request with
    | none => .next s
    | some r => s.transact r

/-- Put a request word in flight, with the payload that stands at the interface, and no reset waiting. -/
def State.placeWord (w : Word64) (s : State) : State :=
  { s with request := some { word := w, payload := s.payload }, resetPending := false }

end Sys2Proof.Machine
end

