-- ==== Sys2Proof/Machine/Step.lean ====
section
/-! DEFINITION. The machine's step, and where it takes its next operation from. -/

namespace Sys2Proof.Machine

/-- One step of the block: one request in, one response out (00_scope.md R5). -/
def step (s : State) : Host.Outcome State Fault Refusal := s.stepOnce

/-- `s` with the request whose word has the low `nbits` bits of `w`, every bit above them 0, in flight, so that the next step
runs it. The block fetches nothing (10_state.md R32): a request word is issued by the host, and this stands for that (log 1). -/
def State.withFetchWord (s : State) (nbits w : Nat) : State :=
  s.placeWord (BitVec.ofNat 64 (w % 2 ^ nbits))

end Sys2Proof.Machine
end

