-- ==== Sys2Proof/Machine/Assembler.lean ====
section
/-! DEFINITION. The notation of requests (30_encoding.md R97): from the characters of one line to the request it spells. What the
notation leaves open is log 15. The block reads no such text: the notation is the spec's way to write request words. -/

namespace Sys2Proof.Machine

/-- The ASCII codes of a string (00_scope.md R11). -/
def ascii (s : String) : Bytes := s.toList.map (fun c => BitVec.ofNat 8 c.toNat)

/-- A line of the notation: an operation with its payload, or a raw word with its payload (30_encoding.md R97). -/
inductive AsmLine where
  | op (i : Instr) (payload : Bytes)
  | raw (w : Word64) (payload : Bytes)
  deriving DecidableEq, Repr

/-- The request a line stands for: every reserved bit 0, but for a raw word, which may have any bit set (30_encoding.md R97). -/
def assemble : AsmLine → Request
  | .op i p => { word := encode i, payload := p }
  | .raw w p => { word := w, payload := p }

/-- The lexical items of a line. -/
inductive AsmItem where
  | word (s : Bytes)
  | comma
  | equals
  | bytes (b : Bytes)
  | text (t : Bytes)
  deriving DecidableEq, Repr

/-- Where the reader of items stands. -/
inductive AsmMode where
  | between
  | inWord (cur : Bytes)
  | inList (cur : Bytes)
  | inText (cur : Bytes)
  | inEscape (cur : Bytes)
  | inHex (cur : Bytes)
  | inHexLow (cur : Bytes) (hi : BitVec 4)
  deriving DecidableEq, Repr

/-- The character an escape other than `\xHH` stands for (30_encoding.md R97). -/
def escapeChar (c : Byte) : Option Byte :=
  if c = 0x74#8 then some 0x09#8        -- t
  else if c = 0x6E#8 then some 0x0A#8   -- n
  else if c = 0x76#8 then some 0x0B#8   -- v
  else if c = 0x66#8 then some 0x0C#8   -- f
  else if c = 0x72#8 then some 0x0D#8   -- r
  else if c = 0x22#8 then some 0x22#8   -- quote
  else if c = 0x5C#8 then some 0x5C#8   -- backslash
  else none

/-- Split a line into items: words, `,`, `=`, byte lists and quoted texts (30_encoding.md R97).
DESIGN CHOICE (log 15, safe): R97 separates the bytes of a list "by spaces"; the list is read with `hexBytes`, so any of R96's six
white-space codes separates, a run of them counts as one separator, and white space next to a bracket is ignored. Outside lists
and texts only the space 0x20 separates. -/
def asmItems (mode : AsmMode) : Bytes → Option (List AsmItem)
  | [] =>
    match mode with
    | .between => some []
    | .inWord cur => some [.word cur]
    | _ => none
  | c :: rest =>
    match mode with
    | .between =>
      if c = 0x20#8 then asmItems .between rest
      else if c = 0x2C#8 then (asmItems .between rest).map (AsmItem.comma :: ·)
      else if c = 0x3D#8 then (asmItems .between rest).map (AsmItem.equals :: ·)
      else if c = 0x5B#8 then asmItems (.inList []) rest
      else if c = 0x22#8 then asmItems (.inText []) rest
      else asmItems (.inWord [c]) rest
    | .inWord cur =>
      if c = 0x20#8 then (asmItems .between rest).map (AsmItem.word cur :: ·)
      else if c = 0x2C#8 then (asmItems .between rest).map (fun is => AsmItem.word cur :: AsmItem.comma :: is)
      else if c = 0x3D#8 then (asmItems .between rest).map (fun is => AsmItem.word cur :: AsmItem.equals :: is)
      else asmItems (.inWord (cur ++ [c])) rest
    | .inList cur =>
      if c = 0x5D#8 then
        match hexBytes cur with
        | none => none
        | some b => (asmItems .between rest).map (AsmItem.bytes b :: ·)
      else asmItems (.inList (cur ++ [c])) rest
    | .inText cur =>
      if c = 0x22#8 then (asmItems .between rest).map (AsmItem.text cur :: ·)
      else if c = 0x5C#8 then asmItems (.inEscape cur) rest
      else asmItems (.inText (cur ++ [c])) rest
    | .inEscape cur =>
      if c = 0x78#8 then asmItems (.inHex cur) rest
      else
        match escapeChar c with
        | none => none
        | some v => asmItems (.inText (cur ++ [v])) rest
    | .inHex cur =>
      match digVal c with
      | none => none
      | some hi => asmItems (.inHexLow cur hi) rest
    | .inHexLow cur hi =>
      match digVal c with
      | none => none
      | some lo => asmItems (.inText (cur ++ [hi ++ lo])) rest

/-- The number of a run of hex digits, most significant first. -/
def hexNumber (acc : Nat) : Bytes → Option Nat
  | [] => some acc
  | c :: rest =>
    match digVal c with
    | none => none
    | some d => hexNumber (acc * 16 + d.toNat) rest

/-- `0x` and exactly `digits` hex digits. -/
def hexLiteral (digits : Nat) : Bytes → Option Nat
  | 0x30#8 :: 0x78#8 :: ds => if ds.length = digits then hexNumber 0 ds else none
  | _ => none

/-- An operand `key=value`, its value one item. -/
abbrev AsmArg := Bytes × AsmItem

/-- The operands after a mnemonic, separated by commas. -/
def asmArgs : List AsmItem → Option (List AsmArg)
  | [] => some []
  | [.word k, .equals, v] => some [(k, v)]
  | .word k :: .equals :: v :: .comma :: .word l :: rest => (asmArgs (.word l :: rest)).map ((k, v) :: ·)
  | _ => none

/-- The operands are among `keys`, each at most once. -/
def asmKeysOk (keys : List Bytes) (args : List AsmArg) : Bool :=
  args.all (fun a => keys.contains a.1) && decide (args.map Prod.fst).Nodup

/-- The item an operand gives, none when the operand is omitted. -/
def asmFind (key : Bytes) (args : List AsmArg) : Option AsmItem :=
  (args.find? (fun a => a.1 == key)).map Prod.snd

/-- A numeric operand of `digits` hex digits; 0 when omitted (30_encoding.md R97). -/
def asmHex (w digits : Nat) (key : String) (args : List AsmArg) : Option (BitVec w) :=
  match asmFind (ascii key) args with
  | none => some 0#w
  | some (.word v) => (hexLiteral digits v).map (BitVec.ofNat w)
  | some _ => none

/-- The direction operand, one digit 0 or 1; 0 when omitted (30_encoding.md R97). -/
def asmDir (args : List AsmArg) : Option (BitVec 1) :=
  match asmFind (ascii "dir") args with
  | none => some 0#1
  | some (.word [0x30#8]) => some 0#1
  | some (.word [0x31#8]) => some 1#1
  | some _ => none

/-- The data operand of FRAME and ENCODE, a byte list; empty when omitted (30_encoding.md R97). -/
def asmData (args : List AsmArg) : Option Bytes :=
  match asmFind (ascii "data") args with
  | none => some []
  | some (.bytes b) => some b
  | some _ => none

/-- A payload written as a byte list; empty when omitted. -/
def asmByteList : List AsmItem → Option Bytes
  | [] => some []
  | [.bytes b] => some b
  | _ => none

/-- A payload written as a quoted string; empty when omitted. -/
def asmText : List AsmItem → Option Bytes
  | [] => some []
  | [.text t] => some t
  | _ => none

/-- The operands of FRAME and ENCODE: `st=`, `dir=`, `bus=`, `data=` (30_encoding.md R97). -/
def asmFrame (mk : Byte → BitVec 1 → Byte → Instr) (rest : List AsmItem) : Option AsmLine := do
  let args ← asmArgs rest
  if asmKeysOk [ascii "st", ascii "dir", ascii "bus", ascii "data"] args then
    let st ← asmHex 8 2 "st" args
    let dir ← asmDir args
    let bus ← asmHex 8 2 "bus" args
    let data ← asmData args
    some (.op (mk st dir bus) data)
  else none

/-- The one-byte operand of UNPACK (`c=`) and HEXENC_BYTE (`b=`) (30_encoding.md R97). -/
def asmOneByte (key : String) (mk : Byte → Instr) (rest : List AsmItem) : Option AsmLine := do
  let args ← asmArgs rest
  if asmKeysOk [ascii key] args then
    let v ← asmHex 8 2 key args
    some (.op (mk v) [])
  else none

/-- The line whose items are given (30_encoding.md R97). -/
def asmLine : List AsmItem → Option AsmLine
  | .word m :: rest =>
    if m = ascii "CRC16" then (asmByteList rest).map (AsmLine.op .crc16)
    else if m = ascii "CRC_STEP" then do
      let args ← asmArgs rest
      if asmKeysOk [ascii "crc", ascii "b"] args then
        let crc ← asmHex 16 4 "crc" args
        let b ← asmHex 8 2 "b" args
        some (.op (.crcStep crc b) [])
      else none
    else if m = ascii "PACK" then do
      let args ← asmArgs rest
      if asmKeysOk [ascii "dir", ascii "bus"] args then
        let dir ← asmDir args
        let bus ← asmHex 8 2 "bus" args
        some (.op (.pack dir bus) [])
      else none
    else if m = ascii "UNPACK" then asmOneByte "c" .unpack rest
    else if m = ascii "HEXENC_BYTE" then asmOneByte "b" .hexencByte rest
    else if m = ascii "HEXDEC_TOKEN" then (asmText rest).map (AsmLine.op .hexdecToken)
    else if m = ascii "HEXENC_LINE" then (asmByteList rest).map (AsmLine.op .hexencLine)
    else if m = ascii "HEXDEC_LINE" then (asmText rest).map (AsmLine.op .hexdecLine)
    else if m = ascii "FRAME" then asmFrame .frame rest
    else if m = ascii "DEFRAME" then (asmByteList rest).map (AsmLine.op .deframe)
    else if m = ascii "ENCODE" then asmFrame .encode rest
    else if m = ascii "DECODE" then (asmText rest).map (AsmLine.op .decode)
    else if m = ascii ".word64" then
      match rest with
      | .word w :: payload => do
        let v ← hexLiteral 16 w
        let p ← (asmByteList payload).orElse (fun _ => asmText payload)
        some (.raw (BitVec.ofNat 64 v) p)
      | _ => none
    else none
  | _ => none

/-- The request a line of the notation spells, none where it is no line of the notation. -/
def assembleText (line : Bytes) : Option Request :=
  ((asmItems .between line).bind asmLine).map assemble

/-! ### Written responses (30_encoding.md R97, last point) -/

/-- The result fields a written response may show. Which of them it shows is the writer's choice (log 15). -/
inductive ShownField where
  | y0
  | y1
  | yc
  | y16
  | bus7
  | diro
  | dirref
  deriving DecidableEq, Repr

/-- How a written response shows its output payload: not at all, as `out=[...]` or as `out="..."`. -/
inductive ShownOut where
  | hidden
  | bytes
  | text
  deriving DecidableEq, Repr

/-- The name of a status (30_encoding.md R88). -/
def statusName : Status → String
  | .ok => "OK"
  | .error .lengthOverflow => "LengthOverflow"
  | .error .malformedToken => "MalformedToken"
  | .error .frameTooShort => "FrameTooShort"
  | .error .badSentinel => "BadSentinel"
  | .error .lengthMismatch => "LengthMismatch"
  | .error .integrityError => "IntegrityError"
  | .error .illegalOp => "IllegalOp"

/-- One field as `name=value`: bytes and the CRC in hex, `BUS7` as a byte, the two direction bits as one digit. -/
def showField (r : Response) : ShownField → Bytes
  | .y0 => ascii "Y0=0x" ++ hexByte r.y0
  | .y1 => ascii "Y1=0x" ++ hexByte r.y1
  | .yc => ascii "YC=0x" ++ hexByte r.yc
  | .y16 => ascii "Y16=0x" ++ hexByte (r.y16.extractLsb' 8 8) ++ hexByte (r.y16.extractLsb' 0 8)
  | .bus7 => ascii "BUS7=0x" ++ hexByte (r.bus7.setWidth 8)
  | .diro => ascii "DIRO=" ++ [digit (r.diro.setWidth 4)]
  | .dirref => ascii "DIRREF=" ++ [digit (r.dirref.setWidth 4)]

/-- A character of a quoted text that a response is written with: itself when printable, but for the quote and the backslash; else
an escape. DESIGN CHOICE (log 15, safe): R97 lists `\t`, `\n`, `\v`, `\f`, `\r` and `\xHH` and does not say which one a writer
uses; every code outside 0x20 to 0x7E is written `\xHH`, those five among them. -/
def quoteChar (c : Byte) : Bytes :=
  if c = 0x22#8 ∨ c = 0x5C#8 then [0x5C#8, c]
  else if 0x20 ≤ c.toNat ∧ c.toNat ≤ 0x7E then [c]
  else ascii "\\x" ++ hexByte c

/-- A written response: `-> STATUS field=value ... out=[...]` or `out="..."` (30_encoding.md R97). The fields shown and the escapes
of a text are the model's choice where R97 leaves them open (log 15). -/
def responseText (shown : List ShownField) (out : ShownOut) (r : Response) : Bytes :=
  ascii "-> " ++ ascii (statusName r.status)
    ++ shown.flatMap (fun f => 0x20#8 :: showField r f)
    ++ match out with
       | .hidden => []
       | .bytes => ascii " out=[" ++ hexLine r.payloadOut ++ ascii "]"
       | .text => ascii " out=" ++ [0x22#8] ++ r.payloadOut.flatMap quoteChar ++ [0x22#8]

end Sys2Proof.Machine
end

