-- ==== Sys2Proof/Machine/Reference.lean ====
section
/-! DEFINITION. The response to a request as a function of that request alone (00_scope.md R5), through the spec's pure
named functions and no register. It is what the meanings, which run through State's working registers, are held to
by the statements; no meaning calls it. -/

namespace Sys2Proof.Machine

/-- The response of FRAMEFN's or DEFRAMEFN's result, `out` giving the output payload (43_framer.md R191, R194 to R196). -/
def answerPacket (out : Packet → Bytes) : Except ErrorKind Packet → Response
  | .error e => Response.ofError e
  | .ok p => Response.ofPacket p (out p)

/-- The response to an operation with its payload (30_encoding.md R86). -/
def answerInstr (i : Instr) (payload : Bytes) : Response :=
  match i with
  | .crc16 => Response.ofCrc (crc16 payload)
  | .crcStep a16 a0 => Response.ofCrc (crcUpdate a16 a0)
  | .pack dir a1 => Response.ofCombined (pack dir a1)
  | .unpack a0 => Response.ofCombined a0
  | .hexencByte a0 => { y0 := digit (a0.extractLsb' 4 4), y1 := digit (a0.extractLsb' 0 4) }
  | .hexdecToken =>
    match hexTok payload with
    | none => Response.ofError .malformedToken
    | some v => { y0 := v }
  | .hexencLine => { payloadOut := hexLine payload }
  | .hexdecLine =>
    match hexBytes payload with
    | none => Response.ofError .malformedToken
    | some b => { payloadOut := b }
  | .frame a0 dir a1 => answerPacket wire (frameFn a0 dir a1 payload)
  | .deframe => answerPacket (fun p => p.data) (deframeFn payload)
  | .encode a0 dir a1 => answerPacket (fun p => hexLine (wire p)) (frameFn a0 dir a1 payload)
  | .decode =>
    match hexBytes payload with
    | none => Response.ofError .malformedToken
    | some b => answerPacket (fun p => p.data) (deframeFn b)

/-- The response to a request (00_scope.md R5): IllegalOp before any look at the payload (60_exceptions.md R245). -/
def answer (r : Request) : Response :=
  match Sys2Proof.decode r.word with
  | .error _ => Response.ofError .illegalOp
  | .ok i => answerInstr i r.payload

end Sys2Proof.Machine
end

