-- ==== Sys2Proof/Machine/Session.lean ====
section
/-! DEFINITION. The host's side of the interface (10_state.md R39, 60_exceptions.md R254): it issues a request, reads the response, and
nothing else; reset may arrive at any time (70_reset_and_hazards.md R271). A session is the run of a list of requests, which is what the
spec calls a program (95_test_vectors.md section 5). -/

namespace Sys2Proof.Machine

/-- The host issues a request (10_state.md R39 (a)). One request at a time: with one in flight none is accepted (60_exceptions.md R254 (a)).
Issuing leaves no response standing at the interface (log 7). DESIGN CHOICE (log 18), unsafe: a request is accepted also while a reset waits
to be served, which R271 (a request in progress when reset arrives) and R272 (after release) leave open. -/
def State.issue (r : Request) (s : State) : Option State :=
  match s.request with
  | some _ => none
  | none => some { s with request := some r, response := none }

/-- The host reads the response (10_state.md R39 (b)); reading has no side effect (20_memory.md R67). -/
def State.readResponse (s : State) : Option Response := s.response

/-- A reset arrives (70_reset_and_hazards.md R271); the next step serves it. Whatever is in flight at that step is dropped, also a request
issued after the reset arrived (DESIGN CHOICE, log 18). -/
def State.raiseReset (s : State) : State := { s with resetPending := true }

/-- Issue each request in turn, run the block one step, and read the response before the next request is issued
(60_exceptions.md R254 (a)). None when a request is not accepted, is refused or gets no response. -/
def serve : List Request → State → Option (List Response × State)
  | [], s => some ([], s)
  | r :: rest, s =>
    match s.issue r with
    | none => none
    | some held =>
      match step held with
      | .next done =>
        match done.readResponse with
        | none => none
        | some a =>
          match serve rest done with
          | none => none
          | some (as, last) => some (a :: as, last)
      | .fault _ => none
      | .refused _ => none

end Sys2Proof.Machine
end

