-- ==== Sys2Proof/Safety.lean ====
section
/-! DEFINITION. What a safe run is: no step faults, and none refuses while PAYLOAD_MAX holds every payload; and the invariant
that every step keeps. -/

namespace Sys2Proof

open Machine

/-- The step answers a next state. -/
def StepsOn (s : State) : Prop := ∃ t, step s = .next t

/-- The payload of the request in flight, if there is one, is within PAYLOAD_MAX (20_memory.md R68). -/
def PayloadHeld (s : State) : Prop := ∀ r, s.request = some r → payloadFits s.payloadMax r.payload = true

/-- A response the block may give: an error carries its kind and nothing else (60_exceptions.md R246), and in every response
`BUS7`, `DIRO` and `DIRREF` are the split of `YC` (10_state.md R38, 41_fields.md R141). -/
def ResponseLegal (r : Response) : Prop :=
  (∀ e, r.status = .error e → r = Response.ofError e) ∧
  r.bus7 = unpackBus r.yc ∧ r.diro = unpackDir r.yc ∧ r.dirref = unpackDirRef r.yc

/-- The machine's invariant: PAYLOAD_MAX has a legal value (20_memory.md R68), a response that stands at the interface is legal, and
no working value is held between transactions (10_state.md R41). -/
def Legal (s : State) : Prop :=
  payloadMaxLegal s.payloadMax = true ∧ (∀ r, s.response = some r → ResponseLegal r) ∧ s.work = Work.idle

end Sys2Proof
end

