-- ==== Sys2Proof/Certificates/Slice0/Obligations.lean ====
section
/-! DEFINITION. The statements for the provers. The first section holds the vocabulary they share, written from the rules
in other terms than the model's where that is possible (arithmetic for bit slices, tables for digits, a joined list for a
serialized line). -/

open Sys2Proof Sys2Proof.Machine

/-! ### Vocabulary -/

namespace Sys2Proof.Claims

/-- The outcome is a next state in which `rsp` is delivered and no request is left in flight; PAYLOAD_MAX and a waiting reset are
as before. That is the whole frame: State's only other field holds transaction-local working values, of which
`WorkingRegistersAreUnobservable` speaks. -/
def Answers (o : Host.Outcome State Fault Refusal) (s : State) (rsp : Response) : Prop :=
  ∃ t, o = .next t ∧ t.response = some rsp ∧ t.request = none ∧ t.payloadMax = s.payloadMax ∧
    t.resetPending = s.resetPending

/-- `r` is in flight, no reset waits, and its payload is within PAYLOAD_MAX (20_memory.md R68). -/
def InFlight (s : State) (r : Request) : Prop :=
  s.resetPending = false ∧ s.request = some r ∧ payloadFits s.payloadMax r.payload = true

/-- The error response of a kind (60_exceptions.md R246). -/
def errorOf (e : ErrorKind) : Response :=
  { status := .error e, y0 := 0#8, y1 := 0#8, yc := 0#8, y16 := 0#16, bus7 := 0#7, diro := 0#1, dirref := 0#1, payloadOut := [] }

/-- The fields of a request word as shifts (30_encoding.md R80). -/
def wA0 (w : Word64) : Byte := (w >>> 8).setWidth 8
/-- Bits 23:16. -/
def wA1 (w : Word64) : Byte := (w >>> 16).setWidth 8
/-- Bit 24. -/
def wDir (w : Word64) : BitVec 1 := (w >>> 24).setWidth 1
/-- Bits 47:32. -/
def wA16 (w : Word64) : Word16 := (w >>> 32).setWidth 16

/-- What a rule of an operation says at the interface: a request in flight with the rule's `OP` gets the response `Out` describes from
its word and payload, or IllegalOp when a reserved bit is set. The word's other fields are arbitrary. -/
def OperationRule (op : BitVec 4) (Out : Word64 → Bytes → Response → Prop) : Prop :=
  ∀ s r, InFlight s r → r.word &&& 0xF#64 = op.setWidth 64 →
    (r.word &&& 0xFFFF0000FE0000F0#64 = 0#64 → ∃ rsp, Out r.word r.payload rsp ∧ Answers (step s) s rsp) ∧
    (r.word &&& 0xFFFF0000FE0000F0#64 ≠ 0#64 → Answers (step s) s (errorOf .illegalOp))

/-- The operation's meaning answers, in every state, the response `Out` describes from the payload. -/
def MeaningRule (i : Instr) (Out : Bytes → Response → Prop) : Prop :=
  ∀ s, ∃ rsp, Out s.payload rsp ∧ Answers (exec i s) s rsp

/-- The bits of a request word an operation uses: `OP` and the fields of its row in 30_encoding.md R86. -/
def usedBits : Instr → Word64
  | .crc16 => 0x000000000000000F#64
  | .crcStep _ _ => 0x0000FFFF0000FF0F#64
  | .pack _ _ => 0x0000000001FF000F#64
  | .unpack _ => 0x000000000000FF0F#64
  | .hexencByte _ => 0x000000000000FF0F#64
  | .hexdecToken => 0x000000000000000F#64
  | .hexencLine => 0x000000000000000F#64
  | .hexdecLine => 0x000000000000000F#64
  | .frame _ _ _ => 0x0000000001FFFF0F#64
  | .deframe => 0x000000000000000F#64
  | .encode _ _ _ => 0x0000000001FFFF0F#64
  | .decode => 0x000000000000000F#64

/-- The operations that take no payload (30_encoding.md R85). -/
def takesNoPayload : Instr → Bool
  | .crcStep _ _ => true
  | .pack _ _ => true
  | .unpack _ => true
  | .hexencByte _ => true
  | .crc16 => false
  | .hexdecToken => false
  | .hexencLine => false
  | .hexdecLine => false
  | .frame _ _ _ => false
  | .deframe => false
  | .encode _ _ _ => false
  | .decode => false

/-- The error kinds an operation itself raises (60_exceptions.md R241). -/
def raises : Instr → List ErrorKind
  | .crc16 => []
  | .crcStep _ _ => []
  | .pack _ _ => []
  | .unpack _ => []
  | .hexencByte _ => []
  | .hexdecToken => [.malformedToken]
  | .hexencLine => []
  | .hexdecLine => [.malformedToken]
  | .frame _ _ _ => [.lengthOverflow]
  | .deframe => [.frameTooShort, .badSentinel, .lengthMismatch, .integrityError]
  | .encode _ _ _ => [.lengthOverflow]
  | .decode => [.malformedToken, .frameTooShort, .badSentinel, .lengthMismatch, .integrityError]

/-- The combined byte as a number: 128 times the direction plus the busNumber's low 7 bits (30_encoding.md R91). -/
def combinedOf (d : BitVec 1) (bus : Byte) : Byte := BitVec.ofNat 8 (128 * d.toNat + bus.toNat % 128)

/-- The digit characters a value has, uppercase and lowercase (30_encoding.md R95). -/
def upperDigits : Bytes :=
  [0x30#8, 0x31#8, 0x32#8, 0x33#8, 0x34#8, 0x35#8, 0x36#8, 0x37#8, 0x38#8, 0x39#8, 0x41#8, 0x42#8, 0x43#8, 0x44#8, 0x45#8, 0x46#8]
/-- The lowercase table (30_encoding.md R95). -/
def lowerDigits : Bytes :=
  [0x30#8, 0x31#8, 0x32#8, 0x33#8, 0x34#8, 0x35#8, 0x36#8, 0x37#8, 0x38#8, 0x39#8, 0x61#8, 0x62#8, 0x63#8, 0x64#8, 0x65#8, 0x66#8]

/-- `ch` is a hex digit of value `n`, in either case. -/
def IsDigit (ch : Byte) (n : Nat) : Prop := upperDigits[n]? = some ch ∨ lowerDigits[n]? = some ch

/-- `t` is exactly two hex digits that spell `v` (42_hex.md R163). -/
def IsToken (t : Bytes) (v : Byte) : Prop :=
  ∃ h l hi lo, t = [h, l] ∧ IsDigit h hi ∧ IsDigit l lo ∧ v.toNat = 16 * hi + lo

/-- A byte's two uppercase digits, by table (42_hex.md R160). -/
def twoDigits (b : Byte) : Bytes := [upperDigits.getD (b.toNat / 16) 0#8, upperDigits.getD (b.toNat % 16) 0#8]

/-- A serialized line: the bytes' digits joined by one space (30_encoding.md R94). -/
def lineOf (b : Bytes) : Bytes := [0x20#8].intercalate (b.map twoDigits)

/-- The white-space codes (30_encoding.md R96). -/
def whiteSpace : Bytes := [0x09#8, 0x0A#8, 0x0B#8, 0x0C#8, 0x0D#8, 0x20#8]

/-- A line in canonical form (42_hex.md R168 (c)): uppercase digits in pairs, one space between pairs, nothing before or after. -/
def Canonical (s : Bytes) : Prop :=
  s = [] ∨ (s.length % 3 = 2 ∧ ∀ k ch, s[k]? = some ch → if k % 3 = 2 then ch = 0x20#8 else ch ∈ upperDigits)

/-- The per-bit map by its formula: `M(r) = (r >> 1) ^ (r[0:0] * 0x8005)` (40_crc.md R125 (b), R120). -/
def crcShift (r : Word16) : Word16 := (r >>> 1) ^^^ (if r.getLsbD 0 then 0x8005#16 else 0#16)

/-- One byte: XORed into bits 7:0, then eight of the per-bit map (40_crc.md R120). -/
def crcByte (r : Word16) (b : Byte) : Word16 := crcShift^[8] (r ^^^ b.setWidth 16)

/-- The CRC of a sequence, from 0xFFFF through its bytes in order (40_crc.md R121). -/
def crcOf (s : Bytes) : Word16 := s.foldl crcByte 0xFFFF#16

/-- The frame of 30_encoding.md R89 with `slack` between its data and its CRC field. -/
def frameBytes (t c : Byte) (data slack : Bytes) (crc : Word16) : Bytes :=
  0xAA#8 :: BitVec.ofNat 8 (3 + data.length) :: t :: c :: data ++ slack
    ++ [(crc >>> 8).setWidth 8, crc.setWidth 8, 0xFF#8]

/-- `CRC16([L, T, C] ++ data)` with `L = 3 + len(data)` (30_encoding.md R92). -/
def frameCrc (t c : Byte) (data : Bytes) : Word16 :=
  crcOf (BitVec.ofNat 8 (3 + data.length) :: t :: c :: data)

/-- A Packet's response (10_state.md R38) with an output payload. -/
def packetResponse (t c : Byte) (data out : Bytes) : Response :=
  { status := .ok, y0 := BitVec.ofNat 8 (3 + data.length), y1 := t, yc := c, y16 := frameCrc t c data,
    bus7 := c.setWidth 7, diro := (c >>> 7).setWidth 1, dirref := c.setWidth 1, payloadOut := out }

/-- FRAME and ENCODE (43_framer.md R190): `render` is applied to the frame's bytes. -/
def BuildResult (render : Bytes → Bytes) (t : Byte) (d : BitVec 1) (bus : Byte) (data : Bytes) (rsp : Response) : Prop :=
  if data.length ≤ 252 then
    rsp = packetResponse t (combinedOf d bus) data
      (render (frameBytes t (combinedOf d bus) data [] (frameCrc t (combinedOf d bus) data)))
  else rsp = errorOf .lengthOverflow

/-- DEFRAME (43_framer.md R193, R244): the checks in their order. Bytes 1 to `L` are `L`, `T`, `C` and the data. -/
def CheckResult (b : Bytes) (rsp : Response) : Prop :=
  if b.length < 7 then rsp = errorOf .frameTooShort
  else if b.head? ≠ some 0xAA#8 ∨ b.getLast? ≠ some 0xFF#8 then rsp = errorOf .badSentinel
  else
    ∀ L T C ch cl, b[1]? = some L → b[2]? = some T → b[3]? = some C →
      b[b.length - 3]? = some ch → b[b.length - 2]? = some cl →
      if L.toNat < 3 ∨ L.toNat + 4 > b.length then rsp = errorOf .lengthMismatch
      else if (crcOf ((b.drop 1).take L.toNat)).toNat ≠ ch.toNat * 256 + cl.toNat then
        rsp = errorOf .integrityError
      else rsp = packetResponse T C ((b.drop 4).take (L.toNat - 3)) ((b.drop 4).take (L.toNat - 3))

/-- DECODE (43_framer.md R196): every token first, then as DEFRAME. -/
def LineCheckResult (s : Bytes) (rsp : Response) : Prop :=
  (∃ b, List.Forall₂ IsToken (tokens s) b ∧ CheckResult b rsp) ∨
  ((∃ t ∈ tokens s, ∀ v, ¬ IsToken t v) ∧ rsp = errorOf .malformedToken)

/-- A chain of CRC_STEP requests in one session: each is issued where the one before left the block, and each response's `Y16` is the
next request's `A16` (40_crc.md R124). It gives the last `Y16` and the state the chain ends in. -/
def stepChain : Bytes → Word16 → State → Option (Word16 × State)
  | [], v, s => some (v, s)
  | b :: rest, v, s =>
    match serve [{ word := encode (.crcStep v b), payload := [] }] s with
    | some ([rsp], t) => stepChain rest rsp.y16 t
    | _ => none

/-- `b` with bit `j` of its byte `k` flipped. -/
def flipBit (b : Bytes) (k j : Nat) : Bytes := b.modify k (fun x => x ^^^ (1#8 <<< j))

end Sys2Proof.Claims

open Sys2Proof.Claims

/-! ### Encoding -/

/-- Decode and encode agree on every operation (30_encoding.md R80, R82, R86). -/
def Obligations.EncodedInstructionDecodesBack : Prop :=
  ∀ i : Instr, decode (encode i) = .ok i

/-- A word decodes exactly when its reserved ranges are clear and its `OP` is below 0xC (30_encoding.md R83, R84): the mask the
decoder tests and the bit ranges of R80 say the same. -/
def Obligations.WordDecodesIffWellFormed : Prop :=
  ∀ w : Word64, (∃ i, decode w = .ok i) ↔ requestWordOk w = true

/-- Every `OP` selects its operation of 30_encoding.md R82, with the operand fields of R86. -/
def Obligations.OpcodeSelectsOperationAndFields : Prop :=
  ∀ w : Word64, w &&& 0xFFFF0000FE0000F0#64 = 0#64 →
    (w &&& 0xF#64 = 0x0#64 → decode w = .ok .crc16) ∧
    (w &&& 0xF#64 = 0x1#64 → decode w = .ok (.crcStep (wA16 w) (wA0 w))) ∧
    (w &&& 0xF#64 = 0x2#64 → decode w = .ok (.pack (wDir w) (wA1 w))) ∧
    (w &&& 0xF#64 = 0x3#64 → decode w = .ok (.unpack (wA0 w))) ∧
    (w &&& 0xF#64 = 0x4#64 → decode w = .ok (.hexencByte (wA0 w))) ∧
    (w &&& 0xF#64 = 0x5#64 → decode w = .ok .hexdecToken) ∧
    (w &&& 0xF#64 = 0x6#64 → decode w = .ok .hexencLine) ∧
    (w &&& 0xF#64 = 0x7#64 → decode w = .ok .hexdecLine) ∧
    (w &&& 0xF#64 = 0x8#64 → decode w = .ok (.frame (wA0 w) (wDir w) (wA1 w))) ∧
    (w &&& 0xF#64 = 0x9#64 → decode w = .ok .deframe) ∧
    (w &&& 0xF#64 = 0xA#64 → decode w = .ok (.encode (wA0 w) (wDir w) (wA1 w))) ∧
    (w &&& 0xF#64 = 0xB#64 → decode w = .ok .decode)

/-- The request words the operations' rules write as formulas (40_crc.md R124, 41_fields.md R142, R143, 42_hex.md R161,
43_framer.md R191, R195) and as constants (R123, R164, R166, R167, R194, R196). -/
def Obligations.EncodingsMatchTheRulesFormulas : Prop :=
  encode .crc16 = 0x0000000000000000#64 ∧
  (∀ (v : Word16) (b : Byte), encode (.crcStep v b) = (v.setWidth 64 <<< 32) ||| (b.setWidth 64 <<< 8) ||| 0x1#64) ∧
  (∀ (d : BitVec 1) (bus : Byte), encode (.pack d bus) = (d.setWidth 64 <<< 24) ||| (bus.setWidth 64 <<< 16) ||| 0x2#64) ∧
  (∀ c : Byte, encode (.unpack c) = (c.setWidth 64 <<< 8) ||| 0x3#64) ∧
  (∀ b : Byte, encode (.hexencByte b) = (b.setWidth 64 <<< 8) ||| 0x4#64) ∧
  encode .hexdecToken = 0x0000000000000005#64 ∧
  encode .hexencLine = 0x0000000000000006#64 ∧
  encode .hexdecLine = 0x0000000000000007#64 ∧
  (∀ (t : Byte) (d : BitVec 1) (bus : Byte),
    encode (.frame t d bus) = (d.setWidth 64 <<< 24) ||| (bus.setWidth 64 <<< 16) ||| (t.setWidth 64 <<< 8) ||| 0x8#64) ∧
  encode .deframe = 0x0000000000000009#64 ∧
  (∀ (t : Byte) (d : BitVec 1) (bus : Byte),
    encode (.encode t d bus) = (d.setWidth 64 <<< 24) ||| (bus.setWidth 64 <<< 16) ||| (t.setWidth 64 <<< 8) ||| 0xA#64) ∧
  encode .decode = 0x000000000000000B#64

/-- Words written out in 95_test_vectors.md, one of each sub-block and two reserved ones. -/
def Obligations.WrittenOutWordsDecode : Prop :=
  decode 0x0000FFFF00000301#64 = .ok (.crcStep 0xFFFF#16 0x03#8) ∧
  decode 0x0000000001050002#64 = .ok (.pack 1#1 0x05#8) ∧
  decode 0x0000000000003C04#64 = .ok (.hexencByte 0x3C#8) ∧
  decode 0x000000000105120A#64 = .ok (.encode 0x12#8 1#1 0x05#8) ∧
  decode 0x000000000000000C#64 = .error .reservedOp ∧
  decode 0x000000000200000B#64 = .error .reservedBits

/-- 30_encoding.md R85: the fields and the payload an operation does not use change nothing. Two words that agree on `OP` and on the used
fields decode to the same operation; the steps of two requests with such words, and with the same payload where the operation
takes one, answer the same response; and the meaning of an operation that takes no payload answers the same in every state. -/
def Obligations.UnusedFieldsAndPayloadAreIgnored : Prop :=
  (∀ (w w' : Word64) (i : Instr), decode w = .ok i → w' &&& 0xFFFF0000FE0000F0#64 = 0#64 →
    w' &&& usedBits i = w &&& usedBits i → decode w' = .ok i) ∧
  (∀ (s s' : State) (r r' : Request) (i : Instr), InFlight s r → InFlight s' r' → decode r.word = .ok i →
    r'.word &&& 0xFFFF0000FE0000F0#64 = 0#64 → r'.word &&& usedBits i = r.word &&& usedBits i →
    (takesNoPayload i = false → r'.payload = r.payload) →
    ∃ rsp, Answers (step s) s rsp ∧ Answers (step s') s' rsp) ∧
  (∀ (i : Instr) (s s' : State), takesNoPayload i = true →
    ∃ rsp, Answers (exec i s) s rsp ∧ Answers (exec i s') s' rsp)

/-- The response word (30_encoding.md R81): its assembly, its always-0 bits, and every field in its place. -/
def Obligations.ResponseWordAssembly : Prop :=
  ∀ r : Response,
    r.word = r.status.code.setWidth 64 ||| (r.y0.setWidth 64 <<< 8) ||| (r.y1.setWidth 64 <<< 16)
      ||| (r.yc.setWidth 64 <<< 24) ||| (r.y16.setWidth 64 <<< 32) ||| (r.bus7.setWidth 64 <<< 48)
      ||| (r.diro.setWidth 64 <<< 56) ||| (r.dirref.setWidth 64 <<< 57) ∧
    r.word &&& 0xFC800000000000F0#64 = 0#64 ∧
    r.word.setWidth 4 = r.status.code ∧ (r.word >>> 8).setWidth 8 = r.y0 ∧ (r.word >>> 16).setWidth 8 = r.y1 ∧
    (r.word >>> 24).setWidth 8 = r.yc ∧ (r.word >>> 32).setWidth 16 = r.y16 ∧ (r.word >>> 48).setWidth 7 = r.bus7 ∧
    (r.word >>> 56).setWidth 1 = r.diro ∧ (r.word >>> 57).setWidth 1 = r.dirref

/-- The numeric status codes (30_encoding.md R88), none above 7 in any response word (R99). -/
def Obligations.StatusCodesStayBelowEight : Prop :=
  Status.code .ok = 0#4 ∧ ErrorKind.code .lengthOverflow = 1#4 ∧ ErrorKind.code .malformedToken = 2#4 ∧
  ErrorKind.code .frameTooShort = 3#4 ∧ ErrorKind.code .badSentinel = 4#4 ∧ ErrorKind.code .lengthMismatch = 5#4 ∧
  ErrorKind.code .integrityError = 6#4 ∧ ErrorKind.code .illegalOp = 7#4 ∧
  ∀ r : Response, (r.word &&& 0xF#64).toNat ≤ 7

/-! ### The transaction -/

/-- A step runs the operation its request word decodes to, and adds nothing to it. -/
def Obligations.StepRunsDecodedInstruction : Prop :=
  ∀ (s : State) (r : Request) (i : Instr), InFlight s r → decode r.word = .ok i → step s = exec i s

/-- A reserved bit makes IllegalOp of any request, whatever its `OP` (30_encoding.md R84). That this holds for a payload over PAYLOAD_MAX
too, which 20_memory.md R68 puts outside the spec, is the model's reading of the order of the checks (60_exceptions.md R245; log 5). -/
def Obligations.ReservedBitIsIllegalOp : Prop :=
  ∀ (s : State) (r : Request), s.resetPending = false → s.request = some r →
    r.word &&& 0xFFFF0000FE0000F0#64 ≠ 0#64 → Answers (step s) s (errorOf .illegalOp)

/-- `OP` 0xC to 0xF spells no operation; status 7, every result field 0, no output payload (30_encoding.md R83). That this holds for a
payload over PAYLOAD_MAX too is the model's reading of the order of the checks (60_exceptions.md R245; log 5). -/
def Obligations.ReservedOpcodeIsIllegalOp : Prop :=
  ∀ (s : State) (r : Request), s.resetPending = false → s.request = some r →
    12 ≤ (r.word &&& 0xF#64).toNat →
    ∃ rsp, Answers (step s) s rsp ∧ rsp.status = .error .illegalOp ∧ rsp.word = 0x7#64 ∧ rsp.payloadOut = []

/-- A request gets its one response (first clause, 70_reset_and_hazards.md R275), except one that reset abandons or one over PAYLOAD_MAX. The
second clause rests on the model's choices of log 3 (a reset is a field that the next step serves, and the response slot is emptied)
and log 18 (a request issued while the reset waited);
the third on its reading of log 5 (refused whichever the operation, once the word has been found to spell one). -/
def Obligations.EveryRequestGetsOneResponse : Prop :=
  (∀ (s : State) (r : Request), InFlight s r → ∃ rsp, Answers (step s) s rsp) ∧
  (∀ (s : State) (r : Request), s.resetPending = true → s.request = some r →
    ∃ t, step s = .next t ∧ t.request = none ∧ t.response = none) ∧
  (∀ (s : State) (r : Request) (i : Instr) (m : Nat), s.resetPending = false → s.request = some r →
    decode r.word = .ok i → s.payloadMax = some m → m < r.payload.length →
    step s = .refused (.payloadOverMax r.payload.length m))

/-- 20_memory.md R68 with the model's reading of log 5: over PAYLOAD_MAX a request that spells an operation is refused, whichever the
operation; with the default, unbounded, no request is. -/
def Obligations.PayloadBoundRefusesOnlyAboveIt : Prop :=
  (∀ (s : State) (r : Request) (m : Nat), s.resetPending = false → s.request = some r → requestWordOk r.word = true →
    s.payloadMax = some m →
    ((m < r.payload.length → step s = .refused (.payloadOverMax r.payload.length m)) ∧
     (r.payload.length ≤ m → ∃ rsp, Answers (step s) s rsp))) ∧
  (∀ s : State, s.payloadMax = none → StepsOn s)

/-- No step faults, and only a payload over PAYLOAD_MAX stops one (60_exceptions.md R240, R241, 20_memory.md R68). That it stops only a request
whose word spells an operation is the model's reading of the order of the checks (60_exceptions.md R245; log 5). -/
def Obligations.OnlyOverlongPayloadStopsAStep : Prop :=
  ∀ s : State, StepsOn s ∨
    ∃ r m, s.resetPending = false ∧ s.request = some r ∧ requestWordOk r.word = true ∧ s.payloadMax = some m ∧
      m < r.payload.length ∧ step s = .refused (.payloadOverMax r.payload.length m)

/-- A reset that arrives abandons the request in flight without a response and leaves nothing of it (70_reset_and_hazards.md R271).
The model's choices in it: the event is a field of State, the response slot is emptied and PAYLOAD_MAX stays (log 3); the working
values, which R270 leaves unspecified, are zero (log 6); a request issued while the reset waited is dropped too (log 18). -/
def Obligations.ResetAbandonsTheRequestInFlight : Prop :=
  ∀ s : State, s.resetPending = true → step s = .next { State.reset with payloadMax := s.payloadMax }

/-- With no request in flight and no reset waiting nothing happens (60_exceptions.md R249; that a step then keeps the state is the
model's choice, log 2). -/
def Obligations.IdleBlockDoesNothing : Prop :=
  ∀ s : State, s.resetPending = false → s.request = none → step s = .next s

/-- After reset the block is ready at once: the first request gets the response its rule gives (70_reset_and_hazards.md R270,
R272). -/
def Obligations.FirstRequestAfterResetIsAnswered : Prop :=
  ∀ r : Request, ∃ held t, State.reset.issue r = some held ∧ step held = .next t ∧ t.response = some (answer r) ∧
    t.request = none

/-- One request at a time (60_exceptions.md R254 (a)): none is accepted while one is in flight; else the host's request, and nothing
but the request, is in flight. That one is accepted while a reset waits is the model's choice (log 18). -/
def Obligations.OneRequestAtATime : Prop :=
  ∀ (s : State) (r : Request),
    (∀ r', s.request = some r' → s.issue r = none) ∧
    (s.request = none → ∃ held, s.issue r = some held ∧ held.request = some r ∧ held.work = s.work ∧
      held.payloadMax = s.payloadMax ∧ held.resetPending = s.resetPending)

/-- 10_state.md R30: nothing of the past, neither the last response nor a working value, reaches a response. The two states agree
on the request in flight alone. -/
def Obligations.ResponseDependsOnRequestAlone : Prop :=
  ∀ (s t : State) (r : Request), InFlight s r → InFlight t r →
    ∃ rsp, Answers (step s) s rsp ∧ Answers (step t) t rsp

/-- The working registers' values reach nothing: each use sets them first (70_reset_and_hazards.md R270, 10_state.md R41). That the state after
an operation holds the same idle values whatever they were is the model's choice (log 6). -/
def Obligations.WorkingRegistersAreUnobservable : Prop :=
  ∀ (i : Instr) (s : State) (w : Work), exec i { s with work := w } = exec i s ∧
    ∃ t, exec i s = .next t ∧ t.work = Work.idle

/-- The operations, run through the CRC register and the other working registers, give the responses of the spec's pure named
functions (00_scope.md R5, R10). -/
def Obligations.RegisterMachineRefinesPureFunctions : Prop :=
  ∀ (i : Instr) (s : State), Answers (exec i s) s (answerInstr i s.payload)

/-- In any sequence of requests, whatever came before, each gets the response it would get alone, in request order. 20_memory.md R69 says so
of any interleaving of any number of host threads; that such an interleaving is one list of requests, issued one after another
on the one interface, is the model's reading (log 1, log 8). -/
def Obligations.SessionAnswersEachRequestAsAlone : Prop :=
  ∀ (rs : List Request) (s : State), s.request = none → s.resetPending = false →
    (∀ r ∈ rs, payloadFits s.payloadMax r.payload = true) →
    ∃ last, serve rs s = some (rs.map answer, last) ∧ last.request = none ∧ last.resetPending = false ∧
      last.payloadMax = s.payloadMax

/-- Every step keeps the invariant: PAYLOAD_MAX legal, the response at the interface legal, no working value held (the last clause is the
model's choice, log 6). -/
def Obligations.StepKeepsLegal : Prop :=
  ∀ s t : State, Legal s → step s = .next t → Legal t

/-- The invariant holds right after reset. -/
def Obligations.ResetIsLegal : Prop := Legal State.reset

/-! ### Errors -/

/-- 60_exceptions.md R246: an error response carries its kind and nothing else, the response of a step to a request in flight, IllegalOp
among its kinds, and the response of an operation's meaning. -/
def Obligations.ErrorResponseCarriesOnlyItsKind : Prop :=
  (∀ (s t : State) (r : Request) (rsp : Response) (e : ErrorKind), s.request = some r → step s = .next t →
    t.response = some rsp → rsp.status = .error e → rsp.word = e.code.setWidth 64 ∧ rsp = errorOf e) ∧
  (∀ (i : Instr) (s t : State) (rsp : Response) (e : ErrorKind), exec i s = .next t → t.response = some rsp →
    rsp.status = .error e → rsp.word = e.code.setWidth 64 ∧ rsp = errorOf e)

/-- The operations raise exactly the kinds of 60_exceptions.md R241: no other, and each of them on some payload. -/
def Obligations.OperationsRaiseExactlyTheirKinds : Prop :=
  ∀ i : Instr,
    (∀ s : State, ∃ rsp, Answers (exec i s) s rsp ∧ ∀ e, rsp.status = .error e → e ∈ raises i) ∧
    (∀ e ∈ raises i, ∃ s : State, Answers (exec i s) s (errorOf e))

/-! ### CRC-16 generator -/

/-- CRC16 (40_crc.md R123). -/
def Obligations.Crc16ReturnsPayloadCrc : Prop :=
  OperationRule 0x0#4 (fun _ p rsp => rsp = { y16 := crcOf p }) ∧
  MeaningRule .crc16 (fun p rsp => rsp = { y16 := crcOf p })

/-- CRC_STEP (40_crc.md R124). -/
def Obligations.CrcStepUpdatesTheSuppliedRegister : Prop :=
  OperationRule 0x1#4 (fun w _ rsp => rsp = { y16 := crcByte (wA16 w) (wA0 w) }) ∧
  ∀ (v : Word16) (b : Byte), MeaningRule (.crcStep v b) (fun _ rsp => rsp = { y16 := crcByte v b })

/-- A chain of CRC_STEP requests in one session, from 0xFFFF, ends with CRC16 of the sequence, which is what a CRC16 request with the
sequence as its payload returns; and CRC16 continues over a concatenation (40_crc.md R125 (a)). -/
def Obligations.CrcStepChainEqualsCrc16 : Prop :=
  (∀ (bs : Bytes) (s : State), s.request = none → s.resetPending = false →
    (∃ last, stepChain bs 0xFFFF#16 s = some (crc16 bs, last) ∧ last.request = none) ∧
    (payloadFits s.payloadMax bs = true →
      ∃ last, serve [{ word := encode .crc16, payload := bs }] s = some ([{ y16 := crc16 bs }], last))) ∧
  (∀ a b : Bytes, crc16 (a ++ b) = b.foldl crcUpdate (crc16 a))

/-- CRC_UPDATE by its formula, which fixes the polynomial: the per-bit map is `(r >> 1) ^ (r[0:0] * 0x8005)`, an update is eight of it
from `r ^ zext_16(b)` (40_crc.md R120), CRC16 folds it from 0xFFFF (R121), and eight of it are linear over GF(2), so that the
register's part and the byte's part add by XOR (R125 (b)). -/
def Obligations.CrcUpdateIsLinear : Prop :=
  (∀ r : Word16, crcBit r = (r >>> 1) ^^^ (if r.getLsbD 0 then 0x8005#16 else 0#16)) ∧
  (∀ (r : Word16) (b : Byte), crcUpdate r b = crcShift^[8] (r ^^^ b.setWidth 16)) ∧
  (∀ s : Bytes, crc16 s = crcOf s) ∧
  (∀ x y : Word16, crcShift^[8] (x ^^^ y) = crcShift^[8] x ^^^ crcShift^[8] y) ∧
  (∀ (r : Word16) (b : Byte), crcUpdate r b = crcShift^[8] r ^^^ crcShift^[8] (b.setWidth 16))

/-- The per-bit map is a bijection of the register's values; the bit shifted out comes back as bit 15 (40_crc.md R125 (c)). -/
def Obligations.CrcBitMapIsBijective : Prop :=
  Function.Bijective crcBit ∧ ∀ r : Word16, (crcBit r).extractLsb' 15 1 = r.setWidth 1

/-- Two inputs of equal length that differ in exactly one byte, so also in exactly one bit, have different CRCs
(40_crc.md R125 (c)). -/
def Obligations.OneByteChangeChangesTheCrc : Prop :=
  ∀ (pre suf : Bytes) (x y : Byte), x ≠ y → crc16 (pre ++ x :: suf) ≠ crc16 (pre ++ y :: suf)

/-- The golden value (40_crc.md R126), as the CRC16 request returns it in any state. -/
def Obligations.GoldenCrcValue : Prop :=
  ∀ s : State, s.payload = [0x03#8, 0x00#8, 0x00#8] →
    ∃ rsp, Answers (exec .crc16 s) s rsp ∧ rsp.word = 0x0000CC1D00000000#64

/-! ### Field packer and unpacker -/

/-- PACK (41_fields.md R142). -/
def Obligations.PackBuildsTheCombinedByte : Prop :=
  OperationRule 0x2#4 (fun w _ rsp => rsp =
    { yc := combinedOf (wDir w) (wA1 w), bus7 := (wA1 w).setWidth 7, diro := wDir w, dirref := (wA1 w).setWidth 1 }) ∧
  ∀ (d : BitVec 1) (bus : Byte), MeaningRule (.pack d bus) (fun _ rsp => rsp =
    { yc := combinedOf d bus, bus7 := bus.setWidth 7, diro := d, dirref := bus.setWidth 1 })

/-- UNPACK (41_fields.md R143). -/
def Obligations.UnpackSplitsTheCombinedByte : Prop :=
  OperationRule 0x3#4 (fun w _ rsp => rsp =
    { yc := wA0 w, bus7 := (wA0 w).setWidth 7, diro := BitVec.ofNat 1 ((wA0 w).toNat / 128), dirref := (wA0 w).setWidth 1 }) ∧
  ∀ c : Byte, MeaningRule (.unpack c) (fun _ rsp => rsp =
    { yc := c, bus7 := c.setWidth 7, diro := BitVec.ofNat 1 (c.toNat / 128), dirref := c.setWidth 1 })

/-- 41_fields.md R144: the canonical round trips, and the failure of the reference interpretation's. -/
def Obligations.PackAndUnpackAreInverse : Prop :=
  (∀ (d : BitVec 1) (bus : Byte), unpackDir (pack d bus) = d ∧ (unpackBus (pack d bus)).toNat = bus.toNat % 128) ∧
  (∀ c : Byte, pack (unpackDir c) ((unpackBus c).setWidth 8) = c) ∧
  (pack 1#1 0x04#8 = 0x84#8 ∧ unpackDirRef 0x84#8 = 0#1 ∧ unpackBusRaw 0x84#8 ≠ 0x04#8)

/-! ### Hex encoder and decoder -/

/-- HEXENC_BYTE (42_hex.md R161): the two digits by table. -/
def Obligations.HexencByteGivesTwoDigits : Prop :=
  OperationRule 0x4#4 (fun w _ rsp => rsp =
    { y0 := upperDigits.getD ((wA0 w).toNat / 16) 0#8, y1 := upperDigits.getD ((wA0 w).toNat % 16) 0#8 }) ∧
  ∀ b : Byte, MeaningRule (.hexencByte b) (fun _ rsp => rsp =
    { y0 := upperDigits.getD (b.toNat / 16) 0#8, y1 := upperDigits.getD (b.toNat % 16) 0#8 })

/-- HEXDEC_TOKEN (42_hex.md R164): the payload is the token, whole. -/
def Obligations.HexdecTokenDecodesOneToken : Prop :=
  OperationRule 0x5#4 (fun _ p rsp =>
    (∃ v, IsToken p v ∧ rsp = { y0 := v }) ∨ ((∀ v, ¬ IsToken p v) ∧ rsp = errorOf .malformedToken)) ∧
  MeaningRule .hexdecToken (fun p rsp =>
    (∃ v, IsToken p v ∧ rsp = { y0 := v }) ∨ ((∀ v, ¬ IsToken p v) ∧ rsp = errorOf .malformedToken))

/-- HEXENC_LINE (42_hex.md R166), with the length of its text. -/
def Obligations.HexencLineSerializesBytes : Prop :=
  OperationRule 0x6#4 (fun _ p rsp => rsp = { payloadOut := lineOf p }) ∧
  MeaningRule .hexencLine (fun p rsp => rsp = { payloadOut := lineOf p }) ∧
  ∀ b : Bytes, b ≠ [] → (hexLine b).length = 3 * b.length - 1

/-- HEXDEC_LINE (42_hex.md R167): every token decoded, or MalformedToken if any is malformed. -/
def Obligations.HexdecLineParsesEveryToken : Prop :=
  OperationRule 0x7#4 (fun _ p rsp =>
    (∃ b, List.Forall₂ IsToken (tokens p) b ∧ rsp = { payloadOut := b }) ∨
    ((∃ t ∈ tokens p, ∀ v, ¬ IsToken t v) ∧ rsp = errorOf .malformedToken)) ∧
  MeaningRule .hexdecLine (fun p rsp =>
    (∃ b, List.Forall₂ IsToken (tokens p) b ∧ rsp = { payloadOut := b }) ∨
    ((∃ t ∈ tokens p, ∀ v, ¬ IsToken t v) ∧ rsp = errorOf .malformedToken))

/-- 42_hex.md R165: a white-space character splits a line, and a non-empty run without one is one token. These two clauses and the
empty line determine the tokens of every line. -/
def Obligations.TokensAreTheMaximalRuns : Prop :=
  tokens [] = [] ∧
  (∀ (a b : Bytes) (ch : Byte), ch ∈ whiteSpace → tokens (a ++ ch :: b) = tokens a ++ tokens b) ∧
  (∀ t : Bytes, t ≠ [] → (∀ ch ∈ t, ch ∉ whiteSpace) → tokens t = [t])

/-- 42_hex.md R168 (a) to (d). -/
def Obligations.HexTextRoundTrips : Prop :=
  (∀ b : Bytes, hexBytes (hexLine b) = some b) ∧
  (∀ v : Byte, hexTok (hexByte v) = some v) ∧
  (∀ s b : Bytes, hexBytes s = some b → (hexLine b = s ↔ Canonical s)) ∧
  (∀ (s : Bytes) (ch : Byte), ch ∈ s → 0x80 ≤ ch.toNat → hexBytes s = none)

/-! ### Framer and deframer -/

/-- FRAME (43_framer.md R191). -/
def Obligations.FrameBuildsTheWireFrame : Prop :=
  OperationRule 0x8#4 (fun w p rsp => BuildResult (fun b => b) (wA0 w) (wDir w) (wA1 w) p rsp) ∧
  ∀ (t : Byte) (d : BitVec 1) (bus : Byte), MeaningRule (.frame t d bus) (BuildResult (fun b => b) t d bus)

/-- ENCODE (43_framer.md R195), with the number of characters of its text. -/
def Obligations.EncodeRendersTheFrameAsText : Prop :=
  OperationRule 0xA#4 (fun w p rsp => BuildResult lineOf (wA0 w) (wDir w) (wA1 w) p rsp) ∧
  (∀ (t : Byte) (d : BitVec 1) (bus : Byte), MeaningRule (.encode t d bus) (BuildResult lineOf t d bus)) ∧
  (∀ (t : Byte) (d : BitVec 1) (bus : Byte) (s : State), s.payload.length ≤ 252 →
    ∃ rsp, Answers (exec (.encode t d bus) s) s rsp ∧ rsp.payloadOut.length = 3 * (s.payload.length + 7) - 1)

/-- DEFRAME (43_framer.md R194): the checks in their order, then the Packet with its data. -/
def Obligations.DeframeChecksInOrder : Prop :=
  OperationRule 0x9#4 (fun _ p rsp => CheckResult p rsp) ∧ MeaningRule .deframe CheckResult

/-- DECODE (43_framer.md R196): every token first, then as DEFRAME. -/
def Obligations.DecodeChecksTokensThenFrame : Prop :=
  OperationRule 0xB#4 (fun _ p rsp => LineCheckResult p rsp) ∧ MeaningRule .decode LineCheckResult

/-- DEFRAME accepts exactly the frames of 30_encoding.md R89 and R93: sentinels, `L = 3 + len(data)`, any slack, and the CRC of what `L`
covers; it then returns that Packet and that data, and nothing of the slack. -/
def Obligations.DeframeAcceptsExactlyTheValidFrames : Prop :=
  ∀ s : State, ∃ rsp, Answers (exec .deframe s) s rsp ∧
    (rsp.status = .ok ↔ ∃ t c data slack, data.length ≤ 252 ∧ s.payload = frameBytes t c data slack (frameCrc t c data)) ∧
    ∀ t c data slack, data.length ≤ 252 → s.payload = frameBytes t c data slack (frameCrc t c data) →
      rsp = packetResponse t c data data

/-- ENCODE is HEXENC_LINE of FRAME's output, and DECODE is DEFRAME of HEXDEC_LINE's (30_encoding.md R98). -/
def Obligations.TextOperationsAreComposites : Prop :=
  (∀ (t : Byte) (d : BitVec 1) (bus : Byte) (s : State), ∃ rsp, Answers (exec (.frame t d bus) s) s rsp ∧
    ∀ s' : State, s'.payload = rsp.payloadOut → ∃ line, Answers (exec .hexencLine s') s' line ∧
      Answers (exec (.encode t d bus) s) s { rsp with payloadOut := line.payloadOut }) ∧
  (∀ s : State, ∃ line, Answers (exec .hexdecLine s) s line ∧
    (line.status ≠ .ok → Answers (exec .decode s) s line) ∧
    (line.status = .ok → ∀ s' : State, s'.payload = line.payloadOut →
      ∃ rsp, Answers (exec .deframe s') s' rsp ∧ Answers (exec .decode s) s rsp))

/-- 43_framer.md R197: what ENCODE emits DECODE accepts, with the same Packet; and so FRAME and DEFRAME. -/
def Obligations.EncodeThenDecodeRoundTrips : Prop :=
  ∀ (t : Byte) (d : BitVec 1) (bus : Byte) (s : State), s.payload.length ≤ 252 →
    (∃ enc, Answers (exec (.encode t d bus) s) s enc ∧ ∀ s' : State, s'.payload = enc.payloadOut →
      ∃ dec, Answers (exec .decode s') s' dec ∧ dec.status = .ok ∧ dec.y1 = t ∧ dec.payloadOut = s.payload ∧
        dec.y0 = enc.y0 ∧ dec.y16 = enc.y16 ∧ dec.yc = pack d bus ∧ enc.yc = pack d bus ∧ dec.diro = d ∧
        dec.bus7.toNat = bus.toNat % 128) ∧
    (∃ fr, Answers (exec (.frame t d bus) s) s fr ∧ ∀ s' : State, s'.payload = fr.payloadOut →
      ∃ de, Answers (exec .deframe s') s' de ∧ de.status = .ok ∧ de.y1 = t ∧ de.payloadOut = s.payload ∧
        de.y0 = fr.y0 ∧ de.y16 = fr.y16 ∧ de.yc = pack d bus ∧ fr.yc = pack d bus ∧ de.diro = d ∧
        de.bus7.toNat = bus.toNat % 128)

/-- The Packets of OK responses meet the invariants of 10_state.md R36: on the encode path the data is the payload, on the decode path
the output. The sentinels, which no response field carries (R38), are the ends of FRAME's bytes and of ENCODE's text, and the ends of
the bytes DEFRAME and DECODE accepted. -/
def Obligations.ReturnedPacketsMeetTheInvariants : Prop :=
  (∀ (t : Byte) (d : BitVec 1) (bus : Byte) (s : State) (rsp : Response),
    (Answers (exec (.frame t d bus) s) s rsp ∨ Answers (exec (.encode t d bus) s) s rsp) → rsp.status = .ok →
    rsp.y0.toNat = 3 + s.payload.length ∧ rsp.y16 = crcOf (rsp.y0 :: rsp.y1 :: rsp.yc :: s.payload)) ∧
  (∀ (t : Byte) (d : BitVec 1) (bus : Byte) (s : State) (rsp : Response),
    Answers (exec (.frame t d bus) s) s rsp → rsp.status = .ok →
    rsp.payloadOut.head? = some 0xAA#8 ∧ rsp.payloadOut.getLast? = some 0xFF#8) ∧
  (∀ (t : Byte) (d : BitVec 1) (bus : Byte) (s : State) (rsp : Response),
    Answers (exec (.encode t d bus) s) s rsp → rsp.status = .ok →
    [0x41#8, 0x41#8, 0x20#8] <+: rsp.payloadOut ∧ [0x20#8, 0x46#8, 0x46#8] <:+ rsp.payloadOut) ∧
  (∀ (s : State) (rsp : Response),
    (Answers (exec .deframe s) s rsp ∨ Answers (exec .decode s) s rsp) → rsp.status = .ok →
    rsp.y0.toNat = 3 + rsp.payloadOut.length ∧ rsp.y16 = crcOf (rsp.y0 :: rsp.y1 :: rsp.yc :: rsp.payloadOut)) ∧
  (∀ (s : State) (rsp : Response), Answers (exec .deframe s) s rsp → rsp.status = .ok →
    s.payload.head? = some 0xAA#8 ∧ s.payload.getLast? = some 0xFF#8) ∧
  (∀ (s : State) (rsp : Response), Answers (exec .decode s) s rsp → rsp.status = .ok →
    ∃ b, List.Forall₂ IsToken (tokens s.payload) b ∧ b.head? = some 0xAA#8 ∧ b.getLast? = some 0xFF#8)

/-- One flipped bit of a frame FRAME built (43_framer.md R199): in `T`, `C`, data or CRC it is always IntegrityError, in a sentinel
BadSentinel; in `L` it is LengthMismatch, or, for a smaller `L'` of at least 3, IntegrityError unless the two CRCs collide,
and such a collision exists. -/
def Obligations.OneFlippedBitOutcomes : Prop :=
  (∀ (t c : Byte) (data : Bytes) (k j : Nat) (s : State), data.length ≤ 252 → k < data.length + 7 → j < 8 →
    s.payload = flipBit (frameBytes t c data [] (frameCrc t c data)) k j →
    ∃ rsp, Answers (exec .deframe s) s rsp ∧
      ((k = 0 ∨ k = data.length + 6) → rsp = errorOf .badSentinel) ∧
      ((2 ≤ k ∧ k ≤ data.length + 5) → rsp = errorOf .integrityError) ∧
      (k = 1 → ∀ L' : Byte, s.payload[1]? = some L' →
        ((L'.toNat < 3 ∨ 3 + data.length < L'.toNat) → rsp = errorOf .lengthMismatch) ∧
        ((3 ≤ L'.toNat ∧ L'.toNat ≤ 3 + data.length) →
          if crcOf ((s.payload.drop 1).take L'.toNat) = frameCrc t c data then
            rsp = packetResponse t c (data.take (L'.toNat - 3)) (data.take (L'.toNat - 3))
          else rsp = errorOf .integrityError))) ∧
  (∃ (t c : Byte) (data : Bytes) (j : Nat) (s : State), j < 8 ∧ data.length ≤ 252 ∧
    s.payload = flipBit (frameBytes t c data [] (frameCrc t c data)) 1 j ∧
    ∃ rsp, Answers (exec .deframe s) s rsp ∧ rsp.status = .ok)

/-- Two frames back to back are one long frame: the first one's fields, with the last one's CRC (43_framer.md R196, R193). -/
def Obligations.BackToBackFramesReadAsOne : Prop :=
  ∀ (t c t' c' : Byte) (data data' : Bytes) (s : State), data.length ≤ 252 → data'.length ≤ 252 →
    s.payload = frameBytes t c data [] (frameCrc t c data) ++ frameBytes t' c' data' [] (frameCrc t' c' data') →
    Answers (exec .deframe s) s
      (if frameCrc t c data = frameCrc t' c' data' then packetResponse t c data data else errorOf .integrityError)

/-- The sizes of what FRAME and ENCODE emit (00_scope.md R6), so that DECODE can take every line ENCODE emits under every legal
PAYLOAD_MAX (20_memory.md R68). -/
def Obligations.EmittedFramesStayInBounds : Prop :=
  ∀ (t : Byte) (d : BitVec 1) (bus : Byte) (s : State), s.payload.length ≤ 252 →
    (∃ fr, Answers (exec (.frame t d bus) s) s fr ∧ fr.status = .ok ∧ fr.payloadOut.length = s.payload.length + 7 ∧
      7 ≤ fr.payloadOut.length ∧ fr.payloadOut.length ≤ 259) ∧
    (∃ enc, Answers (exec (.encode t d bus) s) s enc ∧ enc.status = .ok ∧ enc.payloadOut.length ≤ 776 ∧
      ∀ max, payloadMaxLegal max = true → payloadFits max enc.payloadOut = true)

/-- The boundary cases the source lists (43_framer.md R200). -/
def Obligations.BoundaryCasesOfTheSource : Prop :=
  (∀ s : State, s.payload = [] → Answers (exec .decode s) s (errorOf .frameTooShort)) ∧
  (∀ s : State, s.payload = ascii "AB 03 00 00 00 CC 1D FF" → Answers (exec .decode s) s (errorOf .badSentinel)) ∧
  (∀ s : State, s.payload = ascii "AA 03 00 00 00 CC 1D EE" → Answers (exec .decode s) s (errorOf .badSentinel)) ∧
  (∀ s : State, s.payload = ascii "AA ZZ 00 00 00 CC 1D FF" → Answers (exec .decode s) s (errorOf .malformedToken)) ∧
  (∀ (t : Byte) (d : BitVec 1) (bus : Byte) (s : State), s.payload.length = 253 →
    Answers (exec (.encode t d bus) s) s (errorOf .lengthOverflow)) ∧
  (∀ (t : Byte) (d : BitVec 1) (bus : Byte) (s : State), s.payload.length = 252 →
    ∃ rsp, Answers (exec (.encode t d bus) s) s rsp ∧ rsp.status = .ok ∧ rsp.y0.toNat = 255) ∧
  (∀ s : State, s.payload = [] → ∃ rsp, Answers (exec (.encode 0x00#8 0#1 0x00#8) s) s rsp ∧ rsp.status = .ok ∧
    rsp.y0 = 0x03#8 ∧ rsp.yc = 0x00#8 ∧ rsp.y16 = 0xCC1D#16)

/-! ### The notation of requests -/

/-- 30_encoding.md R97: a line of the notation sets no reserved bit, and only `.word64` can spell an IllegalOp request; a raw word and
every payload pass unchanged. -/
def Obligations.OnlyRawWordsCanBeIllegal : Prop :=
  ∀ l : AsmLine,
    ((∃ e, decode (assemble l).word = .error e) → ∃ w p, l = .raw w p ∧ (assemble l).word = w) ∧
    (∀ i p, l = .op i p → decode (assemble l).word = .ok i ∧ (assemble l).payload = p ∧
      (assemble l).word &&& 0xFFFF0000FE0000F0#64 = 0#64) ∧
    (∀ w p, l = .raw w p → assemble l = { word := w, payload := p })
end

