-- ==== Sys2Proof/Laws/State.lean ====
section
/-! SUPPORT. One lemma per field per update of State, each true by rfl, so that no proof unfolds a record update. -/

namespace Sys2Proof.Machine

variable (s : State)

/-! `loadCrc` -/

@[simp] theorem State.loadCrc_request (v : Word16) : (s.loadCrc v).request = s.request := rfl
@[simp] theorem State.loadCrc_response (v : Word16) : (s.loadCrc v).response = s.response := rfl
@[simp] theorem State.loadCrc_work_crc (v : Word16) : (s.loadCrc v).work.crc = v := rfl
@[simp] theorem State.loadCrc_work_line (v : Word16) : (s.loadCrc v).work.line = s.work.line := rfl
@[simp] theorem State.loadCrc_work_frame (v : Word16) : (s.loadCrc v).work.frame = s.work.frame := rfl
@[simp] theorem State.loadCrc_resetPending (v : Word16) : (s.loadCrc v).resetPending = s.resetPending := rfl
@[simp] theorem State.loadCrc_payloadMax (v : Word16) : (s.loadCrc v).payloadMax = s.payloadMax := rfl
@[simp] theorem State.loadCrc_payload (v : Word16) : (s.loadCrc v).payload = s.payload := rfl

/-! `feedCrc` -/

@[simp] theorem State.feedCrc_request (b : Byte) : (s.feedCrc b).request = s.request := rfl
@[simp] theorem State.feedCrc_response (b : Byte) : (s.feedCrc b).response = s.response := rfl
@[simp] theorem State.feedCrc_work_crc (b : Byte) : (s.feedCrc b).work.crc = crcUpdate s.work.crc b := rfl
@[simp] theorem State.feedCrc_work_line (b : Byte) : (s.feedCrc b).work.line = s.work.line := rfl
@[simp] theorem State.feedCrc_work_frame (b : Byte) : (s.feedCrc b).work.frame = s.work.frame := rfl
@[simp] theorem State.feedCrc_resetPending (b : Byte) : (s.feedCrc b).resetPending = s.resetPending := rfl
@[simp] theorem State.feedCrc_payloadMax (b : Byte) : (s.feedCrc b).payloadMax = s.payloadMax := rfl
@[simp] theorem State.feedCrc_payload (b : Byte) : (s.feedCrc b).payload = s.payload := rfl

/-! `latchLine` -/

@[simp] theorem State.latchLine_request (bs : Bytes) : (s.latchLine bs).request = s.request := rfl
@[simp] theorem State.latchLine_response (bs : Bytes) : (s.latchLine bs).response = s.response := rfl
@[simp] theorem State.latchLine_work_crc (bs : Bytes) : (s.latchLine bs).work.crc = s.work.crc := rfl
@[simp] theorem State.latchLine_work_line (bs : Bytes) : (s.latchLine bs).work.line = bs := rfl
@[simp] theorem State.latchLine_work_frame (bs : Bytes) : (s.latchLine bs).work.frame = s.work.frame := rfl
@[simp] theorem State.latchLine_resetPending (bs : Bytes) : (s.latchLine bs).resetPending = s.resetPending := rfl
@[simp] theorem State.latchLine_payloadMax (bs : Bytes) : (s.latchLine bs).payloadMax = s.payloadMax := rfl
@[simp] theorem State.latchLine_payload (bs : Bytes) : (s.latchLine bs).payload = s.payload := rfl

/-! `latchFrame` -/

@[simp] theorem State.latchFrame_request (f : ParsedFrame) : (s.latchFrame f).request = s.request := rfl
@[simp] theorem State.latchFrame_response (f : ParsedFrame) : (s.latchFrame f).response = s.response := rfl
@[simp] theorem State.latchFrame_work_crc (f : ParsedFrame) : (s.latchFrame f).work.crc = s.work.crc := rfl
@[simp] theorem State.latchFrame_work_line (f : ParsedFrame) : (s.latchFrame f).work.line = s.work.line := rfl
@[simp] theorem State.latchFrame_work_frame (f : ParsedFrame) : (s.latchFrame f).work.frame = f := rfl
@[simp] theorem State.latchFrame_resetPending (f : ParsedFrame) : (s.latchFrame f).resetPending = s.resetPending := rfl
@[simp] theorem State.latchFrame_payloadMax (f : ParsedFrame) : (s.latchFrame f).payloadMax = s.payloadMax := rfl
@[simp] theorem State.latchFrame_payload (f : ParsedFrame) : (s.latchFrame f).payload = s.payload := rfl

/-! `respond` -/

@[simp] theorem State.respond_request (r : Response) : (s.respond r).request = none := rfl
@[simp] theorem State.respond_response (r : Response) : (s.respond r).response = some (r) := rfl
@[simp] theorem State.respond_work (r : Response) : (s.respond r).work = Work.idle := rfl
@[simp] theorem State.respond_resetPending (r : Response) : (s.respond r).resetPending = s.resetPending := rfl
@[simp] theorem State.respond_payloadMax (r : Response) : (s.respond r).payloadMax = s.payloadMax := rfl

/-! `respondError` -/

@[simp] theorem State.respondError_request (e : ErrorKind) : (s.respondError e).request = none := rfl
@[simp] theorem State.respondError_response (e : ErrorKind) : (s.respondError e).response = some (Response.ofError e) := rfl
@[simp] theorem State.respondError_work (e : ErrorKind) : (s.respondError e).work = Work.idle := rfl
@[simp] theorem State.respondError_resetPending (e : ErrorKind) : (s.respondError e).resetPending = s.resetPending := rfl
@[simp] theorem State.respondError_payloadMax (e : ErrorKind) : (s.respondError e).payloadMax = s.payloadMax := rfl

/-! `applyReset` -/

@[simp] theorem State.applyReset_request : s.applyReset.request = none := rfl
@[simp] theorem State.applyReset_response : s.applyReset.response = none := rfl
@[simp] theorem State.applyReset_work : s.applyReset.work = Work.idle := rfl
@[simp] theorem State.applyReset_resetPending : s.applyReset.resetPending = false := rfl
@[simp] theorem State.applyReset_payloadMax : s.applyReset.payloadMax = s.payloadMax := rfl

/-! `placeWord` -/

@[simp] theorem State.placeWord_request (w : Word64) : (s.placeWord w).request = some { word := w, payload := s.payload } := rfl
@[simp] theorem State.placeWord_response (w : Word64) : (s.placeWord w).response = s.response := rfl
@[simp] theorem State.placeWord_work (w : Word64) : (s.placeWord w).work = s.work := rfl
@[simp] theorem State.placeWord_resetPending (w : Word64) : (s.placeWord w).resetPending = false := rfl
@[simp] theorem State.placeWord_payloadMax (w : Word64) : (s.placeWord w).payloadMax = s.payloadMax := rfl
@[simp] theorem State.placeWord_payload (w : Word64) : (s.placeWord w).payload = s.payload := rfl

/-! `raiseReset` -/

@[simp] theorem State.raiseReset_request : s.raiseReset.request = s.request := rfl
@[simp] theorem State.raiseReset_response : s.raiseReset.response = s.response := rfl
@[simp] theorem State.raiseReset_work : s.raiseReset.work = s.work := rfl
@[simp] theorem State.raiseReset_resetPending : s.raiseReset.resetPending = true := rfl
@[simp] theorem State.raiseReset_payloadMax : s.raiseReset.payloadMax = s.payloadMax := rfl

/-! `reset` -/

@[simp] theorem State.reset_request : State.reset.request = none := rfl
@[simp] theorem State.reset_response : State.reset.response = none := rfl
@[simp] theorem State.reset_work : State.reset.work = Work.idle := rfl
@[simp] theorem State.reset_resetPending : State.reset.resetPending = false := rfl
@[simp] theorem State.reset_payloadMax : State.reset.payloadMax = none := rfl

/-! The payload operand. -/

theorem State.payload_of_request {s : State} {r : Request} (h : s.request = some r) : s.payload = r.payload := by
  simp [State.payload, h]

end Sys2Proof.Machine
end

