-- ==== Sys2Proof/Laws/Ops.lean ====
section
/-! SUPPORT. For each shared operation, one lemma that says everything it can do. -/

namespace Sys2Proof.Machine

/-- Answering forgets whatever the transaction held: only the interface of the state it starts from matters. -/
theorem State.respond_congr {s t : State} (r : Response) (hm : s.payloadMax = t.payloadMax)
    (hr : s.resetPending = t.resetPending) : s.respond r = t.respond r := by
  simp [State.respond, hm, hr]

theorem State.loadCrc_respond (s : State) (v : Word16) (r : Response) : (s.loadCrc v).respond r = s.respond r := rfl

theorem State.latchLine_respond (s : State) (bs : Bytes) (r : Response) : (s.latchLine bs).respond r = s.respond r := rfl

theorem State.latchFrame_respond (s : State) (f : ParsedFrame) (r : Response) :
    (s.latchFrame f).respond r = s.respond r := rfl

/-- Feeding bytes to the CRC register updates it byte by byte and touches nothing else. -/
theorem State.feedCrc_foldl (bs : Bytes) (s : State) :
    bs.foldl (fun t b => t.feedCrc b) s = s.loadCrc (bs.foldl crcUpdate s.work.crc) := by
  induction bs generalizing s with
  | nil => rfl
  | cons b rest ih => simp only [List.foldl_cons, ih]; rfl

/-- A CRC computation leaves `CRC16` of the bytes in the register and touches nothing else (40_crc.md R121). -/
theorem State.runCrc_eq (bs : Bytes) (s : State) : s.runCrc bs = s.loadCrc (crc16 bs) := by
  simp only [State.runCrc, State.feedCrc_foldl, State.loadCrc_work_crc]; rfl

/-- Building a frame delivers `FRAMEFN`'s answer, rendered (43_framer.md R190). -/
theorem State.buildFrame_eq (t : Byte) (d : BitVec 1) (bus : Byte) (render : Bytes → Bytes) (s : State) :
    s.buildFrame t d bus render
      = s.respond (answerPacket (fun p => render (wire p)) (frameFn t d bus s.payload)) := by
  unfold State.buildFrame frameFn
  split
  · rfl
  · simp only [State.runCrc_eq, State.loadCrc_respond]; rfl

/-- Validating frame bytes delivers `DEFRAMEFN`'s answer with its data (43_framer.md R193). -/
theorem State.checkFrame_eq (b : Bytes) (s : State) :
    s.checkFrame b = s.respond (answerPacket (fun p => p.data) (deframeFn b)) := by
  unfold State.checkFrame deframeFn
  cases parseFrame b with
  | error e => rfl
  | ok f =>
    simp only [State.runCrc_eq, State.loadCrc_work_crc, State.loadCrc_work_frame, State.latchFrame_work_frame]
    split <;> rfl

end Sys2Proof.Machine
end

