-- ==== Sys2Proof/Laws/Words.lean ====
section
/-! SUPPORT. The bits of a request word and of a response word, each said once. -/

namespace Sys2Proof

/-- Every bit of a request word (30_encoding.md R80). -/
theorem requestWord_getLsbD (op : BitVec 4) (a0 a1 : Byte) (dir : BitVec 1) (a16 : Word16) (k : Nat) :
    (requestWord op a0 a1 dir a16).getLsbD k =
      if k < 4 then op.getLsbD k
      else if k < 8 then false
      else if k < 16 then a0.getLsbD (k - 8)
      else if k < 24 then a1.getLsbD (k - 16)
      else if k < 25 then dir.getLsbD (k - 24)
      else if k < 32 then false
      else if k < 48 then a16.getLsbD (k - 32)
      else false := by
  change BitVec.getLsbD (w := 16 + 16 + 7 + 1 + 8 + 8 + 4 + 4)
    (0#16 ++ a16 ++ 0#7 ++ dir ++ a1 ++ a0 ++ 0#4 ++ op) k = _
  simp only [BitVec.getLsbD_append, BitVec.getLsbD_zero, Nat.sub_sub]
  repeat refine ite_congr (propext (by omega)) (fun _ => rfl) fun _ => ?_
  rfl

/-- Every bit of a response word (30_encoding.md R81). -/
theorem Machine.Response.word_getLsbD (r : Machine.Response) (k : Nat) :
    r.word.getLsbD k =
      if k < 4 then r.status.code.getLsbD k
      else if k < 8 then false
      else if k < 16 then r.y0.getLsbD (k - 8)
      else if k < 24 then r.y1.getLsbD (k - 16)
      else if k < 32 then r.yc.getLsbD (k - 24)
      else if k < 48 then r.y16.getLsbD (k - 32)
      else if k < 55 then r.bus7.getLsbD (k - 48)
      else if k < 56 then false
      else if k < 57 then r.diro.getLsbD (k - 56)
      else if k < 58 then r.dirref.getLsbD (k - 57)
      else false := by
  change BitVec.getLsbD (w := 6 + 1 + 1 + 1 + 7 + 16 + 8 + 8 + 8 + 4 + 4)
    (0#6 ++ r.dirref ++ r.diro ++ 0#1 ++ r.bus7 ++ r.y16 ++ r.yc ++ r.y1 ++ r.y0 ++ 0#4 ++ r.status.code) k = _
  simp only [BitVec.getLsbD_append, BitVec.getLsbD_zero, Nat.sub_sub]
  repeat refine ite_congr (propext (by omega)) (fun _ => rfl) fun _ => ?_
  rfl

end Sys2Proof
end

