-- ==== Sys2Proof/Laws/PerInstr.lean ====
section
/-! SUPPORT. Statements about every instruction as syntax, one lemma per constructor.
Family EncodeSpells: the word of an instruction spells an operation, every reserved bit 0 and `OP` below 0xC
(30_encoding.md R83, R84, R97). -/

namespace Sys2Proof.Laws.EncodeSpells

/-- The word of an instruction spells an operation. -/
def Statement (i : Instr) : Prop := requestWordOk (encode i) = true

theorem requestWord_ok (op : BitVec 4) (a0 a1 : Byte) (dir : BitVec 1) (a16 : Word16) (h : op.toNat < 12) :
    requestWordOk (requestWord op a0 a1 dir a16) = true := by
  have h1 : (requestWord op a0 a1 dir a16).extractLsb' 48 16 = 0#16 := by
    refine BitVec.eq_of_getLsbD_eq fun k hk => ?_
    simp only [BitVec.getLsbD_extractLsb', requestWord_getLsbD, BitVec.getLsbD_zero]
    repeat first | rw [if_pos (by omega)] | rw [if_neg (by omega)]
    simp
  have h2 : (requestWord op a0 a1 dir a16).extractLsb' 25 7 = 0#7 := by
    refine BitVec.eq_of_getLsbD_eq fun k hk => ?_
    simp only [BitVec.getLsbD_extractLsb', requestWord_getLsbD, BitVec.getLsbD_zero]
    repeat first | rw [if_pos (by omega)] | rw [if_neg (by omega)]
    simp
  have h3 : (requestWord op a0 a1 dir a16).extractLsb' 4 4 = 0#4 := by
    refine BitVec.eq_of_getLsbD_eq fun k hk => ?_
    simp only [BitVec.getLsbD_extractLsb', requestWord_getLsbD, BitVec.getLsbD_zero]
    repeat first | rw [if_pos (by omega)] | rw [if_neg (by omega)]
    simp
  have h4 : (requestWord op a0 a1 dir a16).extractLsb' 0 4 = op := by
    refine BitVec.eq_of_getLsbD_eq fun k hk => ?_
    simp only [BitVec.getLsbD_extractLsb', requestWord_getLsbD]
    rw [if_pos (by omega)]
    simp [hk]
  simp [requestWordOk, reservedBitsClear, opDefined, h1, h2, h3, h4, h]

theorem crc16 : Statement .crc16 := requestWord_ok _ _ _ _ _ (by decide)
theorem crcStep (a16 : Word16) (a0 : Byte) : Statement (.crcStep a16 a0) := requestWord_ok _ _ _ _ _ (by decide)
theorem pack (dir : BitVec 1) (a1 : Byte) : Statement (.pack dir a1) := requestWord_ok _ _ _ _ _ (by decide)
theorem unpack (a0 : Byte) : Statement (.unpack a0) := requestWord_ok _ _ _ _ _ (by decide)
theorem hexencByte (a0 : Byte) : Statement (.hexencByte a0) := requestWord_ok _ _ _ _ _ (by decide)
theorem hexdecToken : Statement .hexdecToken := requestWord_ok _ _ _ _ _ (by decide)
theorem hexencLine : Statement .hexencLine := requestWord_ok _ _ _ _ _ (by decide)
theorem hexdecLine : Statement .hexdecLine := requestWord_ok _ _ _ _ _ (by decide)
theorem frame (a0 : Byte) (dir : BitVec 1) (a1 : Byte) : Statement (.frame a0 dir a1) :=
  requestWord_ok _ _ _ _ _ (by decide)
theorem deframe : Statement .deframe := requestWord_ok _ _ _ _ _ (by decide)
theorem encode (a0 : Byte) (dir : BitVec 1) (a1 : Byte) : Statement (.encode a0 dir a1) :=
  requestWord_ok _ _ _ _ _ (by decide)
theorem decode : Statement .decode := requestWord_ok _ _ _ _ _ (by decide)

end Sys2Proof.Laws.EncodeSpells
end

