-- ==== Sys2Proof/Laws/Step.lean ====
section
/-! SUPPORT. What one step can do, said once: an inversion lemma for each of its two outcomes that occur. -/

namespace Sys2Proof.Machine

/-- A request that spells an operation and whose payload is within PAYLOAD_MAX runs that operation. -/
theorem State.transact_of_fits {s : State} {r : Request} {i : Instr} (hd : Sys2Proof.decode r.word = .ok i)
    (hf : payloadFits s.payloadMax r.payload = true) : s.transact r = exec i s := by
  simp only [State.transact, hd]
  cases hm : s.payloadMax with
  | none => rfl
  | some m => simp_all [payloadFits]

/-- Everything a step that answers a next state can have done: served a reset, found no request, answered IllegalOp, or run
the decoded operation. -/
theorem step_next_cases {s t : State} (h : step s = .next t) :
    (s.resetPending = true ∧ t = s.applyReset) ∨
    (s.resetPending = false ∧ s.request = none ∧ t = s) ∨
    (s.resetPending = false ∧ ∃ r e, s.request = some r ∧ Sys2Proof.decode r.word = .error e ∧
      t = s.respondError .illegalOp) ∨
    (s.resetPending = false ∧ ∃ r i, s.request = some r ∧ Sys2Proof.decode r.word = .ok i ∧
      payloadFits s.payloadMax r.payload = true ∧ exec i s = .next t) := by
  unfold step State.stepOnce at h
  split at h
  · exact .inl ⟨‹_›, by injection h with h; exact h.symm⟩
  · have hp : s.resetPending = false := by simpa using ‹¬s.resetPending = true›
    split at h
    · exact .inr (.inl ⟨hp, ‹_›, by injection h with h; exact h.symm⟩)
    · rename_i r hr
      unfold State.transact at h
      split at h
      · exact .inr (.inr (.inl ⟨hp, r, _, hr, ‹_›, by injection h with h; exact h.symm⟩))
      · rename_i i hd
        refine .inr (.inr (.inr ⟨hp, r, i, hr, hd, ?_⟩))
        split at h
        · rename_i hm; exact ⟨by simp [hm, payloadFits], h⟩
        · rename_i m hm
          split at h
          · rename_i hl; exact ⟨by simp [hm, payloadFits, hl], h⟩
          · exact absurd h (by simp)

end Sys2Proof.Machine
end

