-- ==== Sys2Proof/Tests/Slice0.lean ====
section
/-! SUPPORT. Small tests. Expected values come from the spec: the encodings of 30_encoding.md and the vectors of
95_test_vectors.md (its section is named at each group); the last part shows that the hypotheses of the statements can be met. -/

-- One theorem after another: many kernel evaluations at once each hold a thread, and their stacks can exceed the memory a build has.
set_option Elab.async false

namespace Sys2Proof.Tests

open Sys2Proof Sys2Proof.Machine Sys2Proof.Claims

/-- After reset, with a request in flight. -/
def inFlight (w : Word64) (p : Bytes) : State := { State.reset with request := some { word := w, payload := p } }

/-- The response word and output payload a step delivers, none when it stops or delivers nothing. -/
def served (w : Word64) (p : Bytes) : Option (Word64 × Bytes) :=
  match step (inFlight w p) with
  | .next t => t.response.map (fun r => (r.word, r.payloadOut))
  | .fault _ => none
  | .refused _ => none

/-! ### Well-formedness: each check refuses an ill-formed term -/

theorem test_reserved_high_bit_refused : reservedBitsClear 0x0001000000000000#64 = false := by decide
theorem test_reserved_middle_bit_refused : reservedBitsClear 0x0000000002000000#64 = false := by decide
theorem test_reserved_low_bit_refused : reservedBitsClear 0x0000000000000010#64 = false := by decide
theorem test_all_operand_bits_accepted : reservedBitsClear 0x0000FFFF01FFFF0F#64 = true := by decide
theorem test_op_c_refused : opDefined 0xC#64 = false ∧ opDefined 0xB#64 = true := by decide
theorem test_word_with_both_faults_refused : requestWordOk 0x000000000000001C#64 = false := by decide
theorem test_payload_bound : payloadFits (some 2) [0#8, 0#8] = true ∧ payloadFits (some 2) [0#8, 0#8, 0#8] = false := by decide
theorem test_payloadMax_775_illegal : payloadMaxLegal (some 775) = false ∧ payloadMaxLegal (some 776) = true := by decide
theorem test_request_check : Request.wellFormed none { word := 0xC#64, payload := [] } = false ∧
    Request.wellFormed (some 0) { word := 0#64, payload := [0#8] } = false := by decide

/-! ### Decoding: one word of every operation, its bits from the encoding strings of opcode_table.json -/

theorem test_decode_crc16 : decode 0x0000000000000000#64 = .ok .crc16 := by decide
theorem test_encode_crc16 : encode .crc16 = 0x0000000000000000#64 := by decide
theorem test_decode_crcStep : decode 0x0000123400005601#64 = .ok (.crcStep 0x1234#16 0x56#8) := by decide
theorem test_encode_crcStep : encode (.crcStep 0x1234#16 0x56#8) = 0x0000123400005601#64 := by decide
theorem test_decode_pack : decode 0x0000000001850002#64 = .ok (.pack 1#1 0x85#8) := by decide
theorem test_encode_pack : encode (.pack 1#1 0x85#8) = 0x0000000001850002#64 := by decide
theorem test_decode_unpack : decode 0x0000000000008103#64 = .ok (.unpack 0x81#8) := by decide
theorem test_encode_unpack : encode (.unpack 0x81#8) = 0x0000000000008103#64 := by decide
theorem test_decode_hexencByte : decode 0x0000000000003C04#64 = .ok (.hexencByte 0x3C#8) := by decide
theorem test_encode_hexencByte : encode (.hexencByte 0x3C#8) = 0x0000000000003C04#64 := by decide
theorem test_decode_hexdecToken : decode 0x0000000000000005#64 = .ok .hexdecToken := by decide
theorem test_encode_hexdecToken : encode .hexdecToken = 0x0000000000000005#64 := by decide
theorem test_decode_hexencLine : decode 0x0000FFFF01FF0006#64 = .ok .hexencLine := by decide
theorem test_decode_hexdecLine : decode 0x0000000000000007#64 = .ok .hexdecLine := by decide
theorem test_encode_hexdecLine : encode .hexdecLine = 0x0000000000000007#64 := by decide
theorem test_decode_frame : decode 0x0000000000FF0108#64 = .ok (.frame 0x01#8 0#1 0xFF#8) := by decide
theorem test_encode_frame : encode (.frame 0x01#8 0#1 0xFF#8) = 0x0000000000FF0108#64 := by decide
theorem test_decode_deframe : decode 0x0000000000000009#64 = .ok .deframe := by decide
theorem test_encode_deframe : encode .deframe = 0x0000000000000009#64 := by decide
theorem test_decode_encode : decode 0x000000000105120A#64 = .ok (.encode 0x12#8 1#1 0x05#8) := by decide
theorem test_encode_encode : encode (.encode 0x12#8 1#1 0x05#8) = 0x000000000105120A#64 := by decide
theorem test_decode_decode : decode 0x000000000000000B#64 = .ok .decode := by decide
theorem test_encode_decode : encode .decode = 0x000000000000000B#64 := by decide
theorem test_encode_hexencLine : encode .hexencLine = 0x0000000000000006#64 := by decide
theorem test_reserved_codes_refused : decode 0xC#64 = .error .reservedOp ∧ decode 0xD#64 = .error .reservedOp ∧
    decode 0xE#64 = .error .reservedOp ∧ decode 0xF#64 = .error .reservedOp := by decide
theorem test_reserved_bit_refused : decode 0x8000000000000008#64 = .error .reservedBits := by decide
theorem test_table_word : decodeTableWord 64 0x105120A = some (.encode 0x12#8 1#1 0x05#8) ∧ decodeTableWord 8 0x3C04 = some (.hexencByte 0#8) := by decide
theorem test_fetch_word : step (State.reset.withFetchWord 64 0x3C04) = exec (.hexencByte 0x3C#8) (State.reset.withFetchWord 64 0x3C04) := rfl

/-! ### One step each (95_test_vectors.md section 3; its numbering in the names of the groups) -/

-- 3.1 CRC16
theorem test_crc16_golden : served 0x0000000000000000#64 [0x03#8, 0x00#8, 0x00#8] = some (0x0000CC1D00000000#64, []) := by decide +kernel
theorem test_crc16_digits : served 0x0000000200000000#64 (ascii "123456789") = some (0x00003D7B00000000#64, []) := by decide +kernel
-- 3.2 CRC_STEP
theorem test_crcStep_first : served 0x0000FFFF00000301#64 [] = some (0x000034FE00000000#64, []) := by decide +kernel
theorem test_crcStep_both_operands : served 0x0000123400005601#64 [] = some (0x00000E1200000000#64, []) := by decide +kernel
-- 3.3 PACK
theorem test_pack_drops_bit_7 : served 0x0000000001850002#64 [] = some (0x0305000085000000#64, []) := by decide +kernel
theorem test_pack_interpretations_differ : served 0x0000000001040002#64 [] = some (0x0104000084000000#64, []) := by decide +kernel
-- 3.4 UNPACK
theorem test_unpack_80 : served 0x0000000000008003#64 [] = some (0x0100000080000000#64, []) := by decide +kernel
theorem test_unpack_12 : served 0x0000000000001203#64 [] = some (0x0012000012000000#64, []) := by decide +kernel
-- 3.5 HEXENC_BYTE
theorem test_hexencByte_3c : served 0x0000000000003C04#64 [] = some (0x0000000000433300#64, []) := by decide +kernel
theorem test_hexencByte_a5 : served 0x000000000000A504#64 [] = some (0x0000000000354100#64, []) := by decide +kernel
-- 3.6 HEXDEC_TOKEN
theorem test_hexdecToken_lowercase : served 0x0000000000000005#64 (ascii "3c") = some (0x0000000000003C00#64, []) := by decide +kernel
theorem test_hexdecToken_not_trimmed : served 0x0000000000000005#64 (ascii "A ") = some (0x0000000000000002#64, []) := by decide +kernel
-- 3.7 HEXENC_LINE
theorem test_hexencLine_empty : served 0x0000000000000006#64 [] = some (0x0000000000000000#64, []) := by decide +kernel
theorem test_hexencLine_four : served 0x0000000000000006#64 [0x0A#8, 0x0B#8, 0xFF#8, 0x00#8] = some (0x0000000000000000#64, (ascii "0A 0B FF 00")) := by decide +kernel
-- 3.8 HEXDEC_LINE
theorem test_hexdecLine_mixed_space : served 0x0000000000000007#64 [0x41#8, 0x41#8, 0x0B#8, 0x30#8, 0x33#8, 0x0C#8, 0x30#8, 0x30#8] = some (0x0000000000000000#64, [0xAA#8, 0x03#8, 0x00#8]) := by decide +kernel
theorem test_hexdecLine_comma : served 0x0000000000000007#64 (ascii "AA,03") = some (0x0000000000000002#64, []) := by decide +kernel
-- 3.9 FRAME
theorem test_frame_one_byte : served 0x0000000000FF0108#64 [0x00#8] = some (0x027F68DB7F010400#64, [0xAA#8, 0x04#8, 0x01#8, 0x7F#8, 0x00#8, 0x68#8, 0xDB#8, 0xFF#8]) := by decide +kernel
theorem test_frame_253_overflows : served 0x0000000000000008#64 (List.replicate 253 0#8) = some (0x0000000000000001#64, []) := by decide +kernel
-- 3.10 DEFRAME
theorem test_deframe_slack : served 0x0000000000000009#64 [0xAA#8, 0x03#8, 0x00#8, 0x00#8, 0x00#8, 0xCC#8, 0x1D#8, 0xFF#8] = some (0x0000CC1D00000300#64, []) := by decide +kernel
theorem test_deframe_length_2 : served 0x0000000000000009#64 [0xAA#8, 0x02#8, 0x00#8, 0x00#8, 0xCC#8, 0x1D#8, 0xFF#8] = some (0x0000000000000005#64, []) := by decide +kernel
-- 3.11 ENCODE
theorem test_encode_four_bytes : served 0x000000000105120A#64 [0xDE#8, 0xAD#8, 0xBE#8, 0xEF#8] = some (0x0305BF2085120700#64, (ascii "AA 07 12 85 DE AD BE EF BF 20 FF")) := by decide +kernel
theorem test_encode_253_overflows : served 0x000000000000000A#64 (List.replicate 253 0#8) = some (0x0000000000000001#64, []) := by decide +kernel
-- 3.12 DECODE
theorem test_decode_four_bytes : served 0x000000000000000B#64 (ascii "AA 07 12 85 DE AD BE EF BF 20 FF") = some (0x0305BF2085120700#64, [0xDE#8, 0xAD#8, 0xBE#8, 0xEF#8]) := by decide +kernel
theorem test_decode_tokens_first : served 0x000000000000000B#64 (ascii "AB ZZ") = some (0x0000000000000002#64, []) := by decide +kernel
-- 3.13 request-word checks
theorem test_reserved_bit_before_payload : served 0x000000000200000B#64 (ascii "AA 03 00 00 CC 1D FF") = some (0x0000000000000007#64, []) := by decide +kernel
-- The largest frame (3.9): 252 bytes of data, L = 0xFF
theorem test_frame_252_length :
    (match step (inFlight 0x8#64 (List.replicate 252 0#8)) with
      | .next t => t.response.map (fun r => (r.status, r.y0)) | .fault _ => none | .refused _ => none)
      = some (Status.ok, 0xFF#8) := by decide +kernel

-- Program P3 of section 5, its CRC chain: three requests in one session.
theorem test_session_crc_chain :
    (serve [{ word := 0x0000FFFF00000301#64, payload := [] }, { word := 0x000034FE00000001#64, payload := [] },
      { word := 0x00001A3400000001#64, payload := [] }] State.reset).map (fun a => a.1.map Response.word)
      = some [0x000034FE00000000#64, 0x00001A3400000000#64, 0x0000CC1D00000000#64] := by decide +kernel

-- The notation of requests (30_encoding.md R97, rows of sections 3.2 and 3.9).
theorem test_assemble_crc_step : assembleText (ascii "CRC_STEP crc=0x1A34, b=0x00") =
    some { word := 0x00001A3400000001#64, payload := [] } := by decide +kernel
theorem test_assemble_frame : assembleText (ascii "FRAME st=0x12, dir=1, bus=0x85, data=[DE AD BE EF]") =
    some { word := 0x0000000001851208#64, payload := [0xDE#8, 0xAD#8, 0xBE#8, 0xEF#8] } := by decide +kernel
theorem test_response_text : responseText [.yc, .bus7, .diro, .dirref] .hidden (Response.ofCombined 0x85#8) =
    ascii "-> OK YC=0x85 BUS7=0x05 DIRO=1 DIRREF=1" := by decide +kernel

/-! ### Reset, refusal, idleness -/

theorem test_reset_abandons : step { inFlight 0#64 [] with resetPending := true } = .next State.reset := rfl
theorem test_idle_step : step State.reset = .next State.reset := rfl
theorem test_payload_over_max_refused :
    (match step { inFlight 0#64 (List.replicate 777 0#8) with payloadMax := some 776 } with
      | .refused x => some x | .next _ => none | .fault _ => none) = some (.payloadOverMax 777 776) := by decide +kernel
theorem test_illegal_word_before_payload_bound :
    (match step { inFlight 0xC#64 (List.replicate 777 0#8) with payloadMax := some 776 } with
      | .next t => t.response | .fault _ => none | .refused _ => none) = some (Response.ofError .illegalOp) := by decide +kernel

/-! ### The hypotheses of the statements can be met -/

/-- A state whose past differs from `inFlight`'s: a response delivered, working values left over, PAYLOAD_MAX at its least. -/
def used (w : Word64) (p : Bytes) : State :=
  { request := some { word := w, payload := p }, response := some (Response.ofCrc 0x1234#16),
    work := { crc := 0xBEEF#16, line := [1#8], frame := { length := 9#8, signalType := 1#8, combined := 2#8, data := [3#8], rx := 4#16 } },
    resetPending := false, payloadMax := some 776 }

theorem witness_InFlight : InFlight (inFlight 0xB#64 []) { word := 0xB#64, payload := [] } ∧
    decode 0xB#64 = .ok .decode := ⟨⟨rfl, rfl, rfl⟩, by decide⟩

theorem witness_OpcodeSelectsOperationAndFields : ∀ op : Fin 12,
    BitVec.ofNat 64 op &&& 0xFFFF0000FE0000F0#64 = 0#64 ∧ BitVec.ofNat 64 op &&& 0xF#64 = BitVec.ofNat 64 op := by decide

theorem witness_OperationRule_runs : ∀ op : Fin 12,
    (inFlight (BitVec.ofNat 64 op) []).resetPending = false ∧
    payloadFits (inFlight (BitVec.ofNat 64 op) []).payloadMax [] = true ∧
    BitVec.ofNat 64 op &&& 0xF#64 = (BitVec.ofNat 4 op).setWidth 64 ∧
    BitVec.ofNat 64 op &&& 0xFFFF0000FE0000F0#64 = 0#64 := by decide

theorem witness_OperationRule_illegal : ∀ op : Fin 12,
    BitVec.ofNat 64 (op + 0x10) &&& 0xF#64 = (BitVec.ofNat 4 op).setWidth 64 ∧
    BitVec.ofNat 64 (op + 0x10) &&& 0xFFFF0000FE0000F0#64 ≠ 0#64 := by decide

theorem witness_UnusedFieldsAndPayloadAreIgnored :
    decode 0x0000FFFF00FF0103#64 = .ok (.unpack 0x01#8) ∧ 0x0000000000000103#64 &&& 0xFFFF0000FE0000F0#64 = 0#64 ∧
    0x0000000000000103#64 &&& usedBits (.unpack 0x01#8) = 0x0000FFFF00FF0103#64 &&& usedBits (.unpack 0x01#8) ∧
    takesNoPayload (.unpack 0x01#8) = true := by decide

theorem witness_UnusedFieldsAndPayloadAreIgnored_step :
    InFlight (inFlight 0x0000FFFF00FF0103#64 [1#8]) { word := 0x0000FFFF00FF0103#64, payload := [1#8] } ∧
    InFlight (used 0x0000000000000103#64 []) { word := 0x0000000000000103#64, payload := [] } ∧
    (takesNoPayload (.unpack 0x01#8) = false → ([] : Bytes) = [1#8]) ∧
    takesNoPayload .crc16 = false := ⟨⟨rfl, rfl, rfl⟩, ⟨rfl, rfl, by decide⟩, nofun, rfl⟩

theorem witness_ReservedBitIsIllegalOp : (inFlight 0x10#64 []).resetPending = false ∧
    (inFlight 0x10#64 []).request = some { word := 0x10#64, payload := [] } ∧
    0x10#64 &&& 0xFFFF0000FE0000F0#64 ≠ 0#64 := ⟨rfl, rfl, by decide⟩

theorem witness_ReservedOpcodeIsIllegalOp : (inFlight 0xC#64 []).resetPending = false ∧
    (inFlight 0xC#64 []).request = some { word := 0xC#64, payload := [] } ∧
    12 ≤ (0xC#64 &&& 0xF#64).toNat ∧ 12 ≤ (0xF#64 &&& 0xF#64).toNat := ⟨rfl, rfl, by decide, by decide⟩

theorem witness_EveryRequestGetsOneResponse :
    InFlight (used 0#64 (List.replicate 776 0#8)) { word := 0#64, payload := List.replicate 776 0#8 } ∧
    (({ used 0#64 [] with resetPending := true } : State).request = some { word := 0#64, payload := [] } ∧
      ({ used 0#64 [] with resetPending := true } : State).resetPending = true) ∧
    ((used 0#64 (List.replicate 777 0#8)).resetPending = false ∧
      (used 0#64 (List.replicate 777 0#8)).request = some { word := 0#64, payload := List.replicate 777 0#8 } ∧
      (used 0#64 (List.replicate 777 0#8)).payloadMax = some 776 ∧
      decode 0#64 = .ok .crc16 ∧ 776 < (List.replicate 777 0#8).length) :=
  ⟨⟨rfl, rfl, by decide +kernel⟩, ⟨rfl, rfl⟩, rfl, rfl, rfl, by decide, by decide +kernel⟩

theorem witness_PayloadBoundRefusesOnlyAboveIt :
    (used 0#64 (List.replicate 777 0#8)).resetPending = false ∧
    (used 0#64 (List.replicate 777 0#8)).request = some { word := 0#64, payload := List.replicate 777 0#8 } ∧
    requestWordOk 0#64 = true ∧ (used 0#64 (List.replicate 777 0#8)).payloadMax = some 776 ∧
    776 < (List.replicate 777 0#8).length ∧ (List.replicate 776 0#8).length ≤ 776 ∧ State.reset.payloadMax = none :=
  ⟨rfl, rfl, by decide, rfl, by decide +kernel, by decide +kernel, rfl⟩

theorem witness_issued_while_a_reset_waits :
    (State.reset.raiseReset.issue { word := 0#64, payload := [] }).map step = some (.next State.reset) := rfl

theorem witness_ResetAbandonsTheRequestInFlight : ({ used 0#64 [] with resetPending := true } : State).resetPending = true := rfl

theorem witness_IdleBlockDoesNothing : State.reset.resetPending = false ∧ State.reset.request = none := ⟨rfl, rfl⟩

theorem witness_OneRequestAtATime : (used 0#64 []).request = some { word := 0#64, payload := [] } ∧ State.reset.request = none :=
  ⟨rfl, rfl⟩

theorem witness_ResponseDependsOnRequestAlone : InFlight (used 5#64 []) { word := 5#64, payload := [] } ∧
    InFlight (inFlight 5#64 []) { word := 5#64, payload := [] } ∧ used 5#64 [] ≠ inFlight 5#64 [] :=
  ⟨⟨rfl, rfl, by decide⟩, ⟨rfl, rfl, rfl⟩, by decide +kernel⟩

theorem witness_SessionAnswersEachRequestAsAlone :
    State.reset.request = none ∧ State.reset.resetPending = false ∧
    ∀ r ∈ [({ word := 0#64, payload := [3#8] } : Request), { word := 0xC#64, payload := [] }],
      payloadFits State.reset.payloadMax r.payload = true := ⟨rfl, rfl, fun _ _ => rfl⟩

theorem witness_StepKeepsLegal : Legal (inFlight 0#64 []) ∧
    step (inFlight 0#64 []) = .next ((inFlight 0#64 []).respond (Response.ofCrc 0xFFFF#16)) :=
  ⟨⟨rfl, (fun _ h => nomatch h), rfl⟩, rfl⟩

theorem witness_ErrorResponseCarriesOnlyItsKind_step :
    (inFlight 0xC#64 []).request = some { word := 0xC#64, payload := [] } ∧
    step (inFlight 0xC#64 []) = .next ((inFlight 0xC#64 []).respond (Response.ofError .illegalOp)) ∧
    ((inFlight 0xC#64 []).respond (Response.ofError .illegalOp)).response = some (Response.ofError .illegalOp) ∧
    (Response.ofError .illegalOp).status = .error .illegalOp := ⟨rfl, rfl, rfl, rfl⟩

theorem witness_ErrorResponseCarriesOnlyItsKind :
    exec .deframe State.reset = .next (State.reset.respond (Response.ofError .frameTooShort)) ∧
    (State.reset.respond (Response.ofError .frameTooShort)).response = some (Response.ofError .frameTooShort) ∧
    (Response.ofError .frameTooShort).status = .error .frameTooShort := ⟨rfl, rfl, rfl⟩

theorem witness_GoldenCrcValue : (inFlight 0#64 [0x03#8, 0x00#8, 0x00#8]).payload = [0x03#8, 0x00#8, 0x00#8] := rfl

theorem witness_CrcStepChainEqualsCrc16 : State.reset.request = none ∧ State.reset.resetPending = false ∧
    payloadFits State.reset.payloadMax [3#8, 0#8, 0#8] = true ∧
    (stepChain [3#8, 0#8, 0#8] 0xFFFF#16 State.reset).map Prod.fst = some 0xCC1D#16 := ⟨rfl, rfl, rfl, by decide +kernel⟩

theorem witness_OneByteChangeChangesTheCrc : (0x00#8 : Byte) ≠ 0x80#8 := by decide

theorem witness_HexencLineSerializesBytes : ([0xAA#8] : Bytes) ≠ [] := by decide

theorem witness_TokensAreTheMaximalRuns : (0x20#8 : Byte) ∈ whiteSpace ∧ (0x09#8 : Byte) ∈ whiteSpace ∧
    ascii "AA" ≠ [] ∧ ∀ ch ∈ ascii "AA", ch ∉ whiteSpace := by decide

theorem witness_HexTextRoundTrips : hexBytes (ascii "AA 03") = some [0xAA#8, 0x03#8] ∧
    hexBytes (ascii " aa") = some [0xAA#8] ∧ (0x80#8 : Byte) ∈ [0x80#8] ∧ 0x80 ≤ (0x80#8 : Byte).toNat := by decide +kernel

/-- Any payload stands in some state: the witness of every hypothesis `s'.payload = …`. -/
theorem payload_of_inFlight (w : Word64) (p : Bytes) : (inFlight w p).payload = p := rfl

theorem length_of_zeros (w : Word64) (n : Nat) : (inFlight w (List.replicate n 0#8)).payload.length = n :=
  List.length_replicate

theorem witness_data_of_252_bytes : (inFlight 8#64 (List.replicate 252 0#8)).payload.length ≤ 252 ∧
    ¬ (inFlight 8#64 (List.replicate 253 0#8)).payload.length ≤ 252 := by
  simp only [length_of_zeros]; decide

theorem witness_DeframeAcceptsExactlyTheValidFrames : ([] : Bytes).length ≤ 252 ∧
    frameBytes 0#8 0#8 [] [0#8] (frameCrc 0#8 0#8 []) = [0xAA#8, 3#8, 0#8, 0#8, 0#8, 0xCC#8, 0x1D#8, 0xFF#8] := by decide +kernel

theorem witness_TextOperationsAreComposites : (inFlight 9#64 [0xAA#8]).payload = [0xAA#8] ∧
    (Response.ofError .malformedToken).status ≠ .ok ∧ ({ payloadOut := [] } : Response).status = .ok := by decide

theorem witness_ReturnedPacketsMeetTheInvariants :
    (∃ rsp, Answers (exec (.frame 0#8 0#1 0#8) State.reset) State.reset rsp ∧ rsp.status = .ok) ∧
    (∃ rsp, Answers (exec (.encode 0#8 0#1 0#8) State.reset) State.reset rsp ∧ rsp.status = .ok) ∧
    (∃ rsp, Answers (exec .deframe (inFlight 9#64 [0xAA#8, 3#8, 0#8, 0#8, 0xCC#8, 0x1D#8, 0xFF#8]))
      (inFlight 9#64 [0xAA#8, 3#8, 0#8, 0#8, 0xCC#8, 0x1D#8, 0xFF#8]) rsp ∧ rsp.status = .ok) := by
  refine ⟨⟨_, ⟨_, rfl, rfl, rfl, rfl, rfl⟩, rfl⟩, ⟨_, ⟨_, rfl, rfl, rfl, rfl, rfl⟩, rfl⟩,
    ⟨packetResponse 0#8 0#8 [] [], ⟨_, rfl, ?_, ?_, ?_, ?_⟩, rfl⟩⟩
  · decide +kernel
  all_goals rw [State.checkFrame_eq]; rfl

theorem witness_ReturnedPacketsMeetTheInvariants_decode :
    ∃ rsp, Answers (exec .decode (inFlight 0xB#64 (ascii "AA 03 00 00 CC 1D FF")))
      (inFlight 0xB#64 (ascii "AA 03 00 00 CC 1D FF")) rsp ∧ rsp.status = .ok := by
  have hb : hexBytes (inFlight 0xB#64 (ascii "AA 03 00 00 CC 1D FF")).payload
      = some [0xAA#8, 0x03#8, 0x00#8, 0x00#8, 0xCC#8, 0x1D#8, 0xFF#8] := by decide +kernel
  refine ⟨answerPacket (fun p => p.data) (deframeFn [0xAA#8, 0x03#8, 0x00#8, 0x00#8, 0xCC#8, 0x1D#8, 0xFF#8]), ?_, by decide +kernel⟩
  simp only [exec, execDecode, hb, State.checkFrame_eq]
  exact ⟨_, rfl, rfl, rfl, rfl, rfl⟩

theorem witness_OneFlippedBitOutcomes : ∀ k : Fin 8,
    (inFlight 9#64 (flipBit (frameBytes 0#8 0#8 [0x77#8] [] (frameCrc 0#8 0#8 [0x77#8])) k 7)).payload =
      flipBit (frameBytes 0#8 0#8 [0x77#8] [] (frameCrc 0#8 0#8 [0x77#8])) k 7 ∧ (k : Nat) < [0x77#8].length + 7 :=
  fun k => ⟨rfl, k.isLt⟩

-- Lengths a flip of `L = 4` can give: bit 0 gives 5 (over `L`), bit 2 gives 0 (under 3); `L = 5`, bit 0, gives 4 (95_test_vectors.md 4.1).
theorem witness_OneFlippedBitOutcomes_length :
    (flipBit (frameBytes 0#8 0#8 [0x77#8] [] (frameCrc 0#8 0#8 [0x77#8])) 1 0)[1]? = some 5#8 ∧
    (flipBit (frameBytes 0#8 0#8 [0x77#8] [] (frameCrc 0#8 0#8 [0x77#8])) 1 2)[1]? = some 0#8 ∧
    (flipBit (frameBytes 0#8 0#8 [0x77#8, 0xF1#8] [] (frameCrc 0#8 0#8 [0x77#8, 0xF1#8])) 1 0)[1]? = some 4#8 := by decide +kernel

theorem witness_BackToBackFramesReadAsOne : ([] : Bytes).length ≤ 252 ∧ frameCrc 0#8 0#8 [] = 0xCC1D#16 ∧
    frameCrc 0#8 0#8 [] ≠ frameCrc 1#8 0#8 [] := by decide +kernel

theorem witness_BoundaryCasesOfTheSource : (inFlight 0xB#64 []).payload = [] ∧
    (inFlight 0xB#64 (ascii "AA ZZ 00 00 00 CC 1D FF")).payload = ascii "AA ZZ 00 00 00 CC 1D FF" ∧
    (inFlight 0xA#64 (List.replicate 253 0#8)).payload.length = 253 ∧
    (inFlight 0xA#64 (List.replicate 252 0#8)).payload.length = 252 :=
  ⟨rfl, rfl, length_of_zeros _ _, length_of_zeros _ _⟩

theorem witness_OnlyRawWordsCanBeIllegal : decode (assemble (.raw 0xC#64 [])).word = .error .reservedOp := by decide

end Sys2Proof.Tests
end

/-! SUPPORT. Family 00_scope.md: a request is answered by the pure function of its operation and payload (R5, R10), and what
the framer emits stays within the protocol's sizes (R6). -/

namespace Sys2Proof.Proofs.Scope

open Sys2Proof Sys2Proof.Machine Sys2Proof.Claims

/-! ### Answering, and the step that runs an operation -/

/-- Delivering a response is an answer: the rest of the interface stands as it did. -/
theorem answers_respond (s : State) (rsp : Response) : Answers (.next (s.respond rsp)) s rsp :=
  ⟨s.respond rsp, rfl, s.respond_response rsp, s.respond_request rsp, s.respond_payloadMax rsp,
    s.respond_resetPending rsp⟩

theorem step_of_request {s : State} {r : Request} (hp : s.resetPending = false) (hr : s.request = some r) :
    step s = s.transact r := by
  simp [step, State.stepOnce, hp, hr]

/-- Settles O9: with no reset waiting a step is the request's transaction, which runs the decoded operation. -/
theorem stepRunsDecodedInstruction : Obligations.StepRunsDecodedInstruction := by
  rintro s r i ⟨hp, hr, hfits⟩ hd
  rw [step_of_request hp hr, State.transact_of_fits hd hfits]

/-! ### The register machine and the pure functions -/

theorem execCrc16_eq (s : State) : execCrc16 s = .next (s.respond (Response.ofCrc (crc16 s.payload))) := by
  simp only [execCrc16, State.runCrc_eq, State.loadCrc_work_crc, State.loadCrc_respond]

theorem execHexdecToken_eq (s : State) :
    execHexdecToken s = .next (s.respond (answerInstr .hexdecToken s.payload)) := by
  simp only [execHexdecToken, answerInstr]
  cases hexTok s.payload <;> rfl

theorem execHexdecLine_eq (s : State) :
    execHexdecLine s = .next (s.respond (answerInstr .hexdecLine s.payload)) := by
  simp only [execHexdecLine, answerInstr]
  cases hexBytes s.payload with
  | none => rfl
  | some b => simp only [State.latchLine_work_line, State.latchLine_respond]

/-- The tokens are checked before the frame (60_exceptions.md R243), and the frame read is the latched line. -/
theorem execDecode_eq (s : State) : execDecode s = .next (s.respond (answerInstr .decode s.payload)) := by
  simp only [execDecode, answerInstr]
  cases hexBytes s.payload with
  | none => rfl
  | some b => simp only [State.latchLine_work_line, State.checkFrame_eq, State.latchLine_respond]

/-- Every operation ends its transaction with the pure functions' response, and no trace of the working registers is left
(00_scope.md R5, 10_state.md R41). -/
theorem exec_eq_respond (i : Instr) (s : State) : exec i s = .next (s.respond (answerInstr i s.payload)) := by
  cases i with
  | crc16 => exact execCrc16_eq s
  | crcStep a16 a0 => rfl
  | pack dir a1 => rfl
  | unpack a0 => rfl
  | hexencByte a0 => rfl
  | hexdecToken => exact execHexdecToken_eq s
  | hexencLine => rfl
  | hexdecLine => exact execHexdecLine_eq s
  | frame a0 dir a1 => exact congrArg Host.Outcome.next (s.buildFrame_eq a0 dir a1 _)
  | deframe => exact congrArg Host.Outcome.next (s.checkFrame_eq _)
  | encode a0 dir a1 => exact congrArg Host.Outcome.next (s.buildFrame_eq a0 dir a1 _)
  | decode => exact execDecode_eq s

/-- Settles O21: each operation delivers its pure response, and delivering it is an answer. -/
theorem registerMachineRefinesPureFunctions : Obligations.RegisterMachineRefinesPureFunctions := by
  intro i s
  rw [exec_eq_respond]
  exact answers_respond s _

/-! ### Sizes of what the framer emits -/

/-- `WIRE` adds seven bytes to the data: START, `L`, `T`, `C`, the CRC's two bytes and STOP (43_framer.md R192). -/
theorem length_wire (p : Packet) : (wire p).length = p.data.length + 7 := by
  simp only [wire, List.length_append, List.length_cons, List.length_nil]
  omega

/-- Two digits a byte and a space between two bytes (42_hex.md R166); the empty line has no characters. -/
theorem length_hexLine (b : Bytes) : (hexLine b).length = 3 * b.length - 1 := by
  cases b with
  | nil => rfl
  | cons c rest =>
    simp only [hexLine, hexByte, List.length_append, List.length_flatMap, List.length_cons, List.length_nil,
      List.map_const', List.sum_replicate, smul_eq_mul]
    omega

/-- Up to DATA_MAX bytes fit a frame (43_framer.md R190), and the Packet holds them as they are. -/
theorem frameFn_of_length_le (t : Byte) (d : BitVec 1) (bus : Byte) {data : Bytes} (h : data.length ≤ 252) :
    ∃ p, frameFn t d bus data = .ok p ∧ p.data = data := by
  have hfits : ¬ Config.lenBias + data.length > Config.lenMax := by
    simp only [Config.lenBias, Config.lenMax]
    omega
  exact ⟨_, if_neg hfits, rfl⟩

/-- Every legal PAYLOAD_MAX holds a text of ENC_TEXT_MAX characters (20_memory.md R68). -/
theorem payloadFits_of_legal {max : Option Nat} {p : Bytes} (hmax : payloadMaxLegal max = true)
    (hp : p.length ≤ Config.encTextMax) : payloadFits max p = true := by
  cases max with
  | none => rfl
  | some m => exact decide_eq_true (hp.trans (of_decide_eq_true hmax))

/-- Settles O53: the Packet's wire form is 7 bytes longer than its data, so at most 259 bytes, whose text has at most
`3 * 259 - 1 = 776` characters. -/
theorem emittedFramesStayInBounds : Obligations.EmittedFramesStayInBounds := by
  intro t d bus s hlen
  obtain ⟨p, hp, hdata⟩ := frameFn_of_length_le t d bus hlen
  have hwire : (wire p).length = s.payload.length + 7 := by rw [length_wire, hdata]
  have htext : (hexLine (wire p)).length ≤ 776 := by rw [length_hexLine]; omega
  have hframe : answerInstr (.frame t d bus) s.payload = Response.ofPacket p (wire p) := by
    simp only [answerInstr, hp, answerPacket]
  have hencode : answerInstr (.encode t d bus) s.payload = Response.ofPacket p (hexLine (wire p)) := by
    simp only [answerInstr, hp, answerPacket]
  constructor
  · refine ⟨Response.ofPacket p (wire p), ?_, rfl, hwire, ?_, ?_⟩
    · exact hframe ▸ registerMachineRefinesPureFunctions _ s
    · exact hwire ▸ Nat.le_add_left 7 _
    · exact hwire ▸ Nat.add_le_add_right hlen 7
  · refine ⟨Response.ofPacket p (hexLine (wire p)), ?_, rfl, htext, fun max hmax => payloadFits_of_legal hmax htext⟩
    exact hencode ▸ registerMachineRefinesPureFunctions _ s

end Sys2Proof.Proofs.Scope

/-! SUPPORT. Family 10_state.md: no past reaches a response and no working value outlives one (R30, R41), and the Packets of
OK responses meet the Packet invariants (R36). -/

namespace Sys2Proof.Proofs.Stateless

open Sys2Proof Sys2Proof.Machine Sys2Proof.Claims Sys2Proof.Proofs.Scope

/-! ### Nothing of the past reaches a response -/

/-- The step's response is the pure function of the request, IllegalOp included (00_scope.md R5). -/
theorem step_answers {s : State} {r : Request} (h : InFlight s r) : Answers (step s) s (answer r) := by
  have ⟨hp, hr, _⟩ := h
  unfold answer
  cases hd : decode r.word with
  | error e =>
    rw [step_of_request hp hr]
    simp only [State.transact, hd]
    exact answers_respond s _
  | ok i =>
    rw [stepRunsDecodedInstruction s r i h hd, ← State.payload_of_request hr]
    exact registerMachineRefinesPureFunctions i s

/-- Settles O19: both steps answer the pure function of the one request they share. -/
theorem responseDependsOnRequestAlone : Obligations.ResponseDependsOnRequestAlone :=
  fun _ _ r hs ht => ⟨answer r, step_answers hs, step_answers ht⟩

/-- Settles O20: an operation delivers the pure response of its payload, which no working value is part of, and delivering it
leaves the working values idle. -/
theorem workingRegistersAreUnobservable : Obligations.WorkingRegistersAreUnobservable := by
  intro i s w
  constructor
  · rw [exec_eq_respond i s, exec_eq_respond i { s with work := w }]
    exact congrArg Host.Outcome.next (State.respond_congr _ rfl rfl)
  · exact ⟨_, exec_eq_respond i s, s.respond_work _⟩

/-! ### What an answer tells of the response -/

/-- An operation has one response, so whatever it answers is the pure function's value. -/
theorem eq_answerInstr_of_answers {i : Instr} {s : State} {rsp : Response} (h : Answers (exec i s) s rsp) :
    rsp = answerInstr i s.payload := by
  obtain ⟨t, ht, hrsp, -⟩ := h
  rw [exec_eq_respond] at ht
  injection ht with ht
  rw [← ht, State.respond_response] at hrsp
  exact (Option.some.inj hrsp).symm

/-- An OK answer of the framer or the deframer carries a Packet. -/
theorem answerPacket_ok {out : Packet → Bytes} {x : Except ErrorKind Packet} (h : (answerPacket out x).status = .ok) :
    ∃ p, x = .ok p ∧ answerPacket out x = Response.ofPacket p (out p) := by
  cases x with
  | error e => exact absurd h (by simp [answerPacket, Response.ofError])
  | ok p => exact ⟨p, rfl, rfl⟩

theorem frame_ok {t : Byte} {d : BitVec 1} {bus : Byte} {s : State} {rsp : Response}
    (h : Answers (exec (.frame t d bus) s) s rsp) (hok : rsp.status = .ok) :
    ∃ p, frameFn t d bus s.payload = .ok p ∧ rsp = Response.ofPacket p (wire p) := by
  obtain rfl := eq_answerInstr_of_answers h
  exact answerPacket_ok hok

theorem encode_ok {t : Byte} {d : BitVec 1} {bus : Byte} {s : State} {rsp : Response}
    (h : Answers (exec (.encode t d bus) s) s rsp) (hok : rsp.status = .ok) :
    ∃ p, frameFn t d bus s.payload = .ok p ∧ rsp = Response.ofPacket p (hexLine (wire p)) := by
  obtain rfl := eq_answerInstr_of_answers h
  exact answerPacket_ok hok

theorem deframe_ok {s : State} {rsp : Response} (h : Answers (exec .deframe s) s rsp) (hok : rsp.status = .ok) :
    ∃ p, deframeFn s.payload = .ok p ∧ rsp = Response.ofPacket p p.data := by
  obtain rfl := eq_answerInstr_of_answers h
  exact answerPacket_ok hok

theorem decode_ok {s : State} {rsp : Response} (h : Answers (exec .decode s) s rsp) (hok : rsp.status = .ok) :
    ∃ b p, hexBytes s.payload = some b ∧ deframeFn b = .ok p ∧ rsp = Response.ofPacket p p.data := by
  have hrsp := eq_answerInstr_of_answers h
  simp only [answerInstr] at hrsp
  cases hb : hexBytes s.payload with
  | none =>
    rw [hb] at hrsp
    exact absurd (hrsp ▸ hok) (by simp [Response.ofError])
  | some b =>
    rw [hb] at hrsp
    subst hrsp
    obtain ⟨p, hp, hrsp⟩ := answerPacket_ok hok
    exact ⟨b, p, rfl, hp, hrsp⟩

/-! ### The CRC by its formula -/

theorem crcBit_eq_crcShift (r : Word16) : crcBit r = crcShift r := by
  unfold crcBit crcShift
  split
  · rfl
  · exact (BitVec.xor_zero).symm

theorem crcUpdate_eq_crcByte (r : Word16) (b : Byte) : crcUpdate r b = crcByte r b := by
  simp only [crcUpdate, crcBits, crcBit_eq_crcShift]
  rfl

/-- The model's CRC16 is the formula's (40_crc.md R120, R121). -/
theorem crc16_eq_crcOf (bs : Bytes) : crc16 bs = crcOf bs := by
  unfold crc16 crcOf
  rw [show crcUpdate = crcByte from funext₂ crcUpdate_eq_crcByte]
  rfl

/-! ### The Packets FRAMEFN and DEFRAMEFN return -/

/-- The invariants 2 and 3 of 10_state.md R36. -/
structure MeetsInvariants (p : Packet) : Prop where
  length_eq : p.length.toNat = 3 + p.data.length
  crc_eq : p.crc = crcOf (p.length :: p.signalType :: p.combined :: p.data)

/-- The length check leaves only sums that the byte `L` holds. -/
theorem frameFn_ok {t : Byte} {d : BitVec 1} {bus : Byte} {data : Bytes} {p : Packet}
    (h : frameFn t d bus data = .ok p) : MeetsInvariants p ∧ p.data = data := by
  unfold frameFn at h
  split at h
  · cases h
  · rename_i hfits
    have hsum : 3 + data.length < 2 ^ 8 := by
      simp only [Config.lenBias, Config.lenMax] at hfits
      omega
    cases h
    exact ⟨⟨(BitVec.toNat_ofNat _ 8).trans (Nat.mod_eq_of_lt hsum), crc16_eq_crcOf _⟩, rfl⟩

theorem head?_of_byteAt {b : Bytes} {x : Byte} (hpos : 0 < b.length) (h : byteAt b 0 = x) : b.head? = some x := by
  rw [List.head?_eq_getElem?, List.getElem?_eq_getElem hpos, ← h, byteAt, List.getD_eq_getElem b 0#8 hpos]

theorem getLast?_of_byteAt {b : Bytes} {x : Byte} (hpos : 0 < b.length) (h : byteAt b (b.length - 1) = x) :
    b.getLast? = some x := by
  have hlast : b.length - 1 < b.length := Nat.sub_lt hpos Nat.one_pos
  rw [List.getLast?_eq_getElem?, List.getElem?_eq_getElem hlast, ← h, byteAt, List.getD_eq_getElem b 0#8 hlast]

/-- What the checks before the CRC's establish (43_framer.md R193): the sentinels, and that the frame holds the data `L` claims. -/
theorem parseFrame_ok {b : Bytes} {f : ParsedFrame} (h : parseFrame b = .ok f) :
    b.head? = some 0xAA#8 ∧ b.getLast? = some 0xFF#8 ∧ f.length.toNat = 3 + f.data.length := by
  unfold parseFrame at h
  dsimp only at h
  split at h
  · cases h
  rename_i hshort
  split at h
  · cases h
  rename_i hsentinels
  split at h
  · cases h
  rename_i hlow
  split at h
  · cases h
  rename_i hhigh
  cases h
  simp only [Config.minFrame, Config.lenBias] at hshort hlow ⊢
  have hpos : 0 < b.length := by omega
  obtain ⟨hstart, hstop⟩ := not_or.mp hsentinels
  refine ⟨head?_of_byteAt hpos (not_not.mp hstart), getLast?_of_byteAt hpos (not_not.mp hstop), ?_⟩
  rw [List.length_take, List.length_drop]
  omega

theorem deframeFn_ok {b : Bytes} {p : Packet} (h : deframeFn b = .ok p) :
    MeetsInvariants p ∧ b.head? = some 0xAA#8 ∧ b.getLast? = some 0xFF#8 := by
  unfold deframeFn at h
  cases hf : parseFrame b with
  | error e => rw [hf] at h; cases h
  | ok f =>
    obtain ⟨hhead, hlast, hlen⟩ := parseFrame_ok hf
    simp only [hf] at h
    split at h
    · cases h
    · rename_i hcrc
      cases h
      exact ⟨⟨hlen, (not_not.mp hcrc).symm.trans (crc16_eq_crcOf _)⟩, hhead, hlast⟩

/-! ### The sentinels in a frame's text -/

/-- A line of two or more bytes begins with the first byte's token and a space. -/
theorem hexLine_begins_with_token (b c : Byte) (rest : Bytes) :
    hexByte b ++ [0x20#8] <+: hexLine (b :: c :: rest) :=
  ⟨hexByte c ++ rest.flatMap (fun x => 0x20#8 :: hexByte x), by simp [hexLine]⟩

/-- A line of two or more bytes ends with a space and the last byte's token. -/
theorem hexLine_ends_with_token (b c : Byte) (mid : Bytes) :
    0x20#8 :: hexByte c <:+ hexLine (b :: (mid ++ [c])) :=
  ⟨hexByte b ++ mid.flatMap (fun x => 0x20#8 :: hexByte x), by simp [hexLine]⟩

/-- A frame's bytes, their two ends apart. -/
theorem wire_eq_sentinels (p : Packet) : ∃ l mid, wire p = 0xAA#8 :: l :: (mid ++ [0xFF#8]) :=
  ⟨p.length, p.signalType :: p.combined :: p.data ++ [p.crc.extractLsb' 8 8, p.crc.extractLsb' 0 8], by
    simp [wire, Config.start, Config.stop]⟩

/-! ### The tokens of a line that decodes -/

theorem upperDigits_decimal : ∀ k < 10, upperDigits[k]? = some (BitVec.ofNat 8 (0x30 + k)) := by decide
theorem upperDigits_letter : ∀ k < 6, upperDigits[k + 10]? = some (BitVec.ofNat 8 (0x41 + k)) := by decide
theorem lowerDigits_letter : ∀ k < 6, lowerDigits[k + 10]? = some (BitVec.ofNat 8 (0x61 + k)) := by decide

/-- A character in a stretch of consecutive codes of a digit table stands at its distance from the stretch's first code. -/
theorem getElem?_of_stretch {table : Bytes} {base off n : Nat}
    (hstretch : ∀ k < n, table[k + off]? = some (BitVec.ofNat 8 (base + k))) (hn : n + off ≤ 16) {ch : Byte}
    (hlow : base ≤ ch.toNat) (hhigh : ch.toNat < base + n) :
    table[(BitVec.ofNat 4 (ch.toNat - base + off)).toNat]? = some ch := by
  have hindex : (BitVec.ofNat 4 (ch.toNat - base + off)).toNat = ch.toNat - base + off :=
    (BitVec.toNat_ofNat _ 4).trans (Nat.mod_eq_of_lt (by omega))
  rw [hindex, hstretch _ (by omega), Nat.add_sub_cancel' hlow, BitVec.ofNat_toNat, BitVec.setWidth_eq]

/-- `DIGVAL` by its three ranges, each a stretch of the digit tables (30_encoding.md R95, 42_hex.md R162). -/
theorem isDigit_of_digVal {ch : Byte} {n : BitVec 4} (h : digVal ch = some n) : IsDigit ch n.toNat := by
  unfold digVal at h
  split at h
  · rename_i hrange
    obtain ⟨hlow, hhigh⟩ := hrange
    cases h
    exact .inl (getElem?_of_stretch (off := 0) upperDigits_decimal (by decide) hlow (by omega))
  split at h
  · rename_i hrange
    obtain ⟨hlow, hhigh⟩ := hrange
    cases h
    exact .inl (getElem?_of_stretch upperDigits_letter (by decide) hlow (by omega))
  split at h
  · rename_i hrange
    obtain ⟨hlow, hhigh⟩ := hrange
    cases h
    exact .inr (getElem?_of_stretch lowerDigits_letter (by decide) hlow (by omega))
  · cases h

theorem toNat_nibbles (hi lo : BitVec 4) : (hi ++ lo : Byte).toNat = 16 * hi.toNat + lo.toNat := by
  rw [BitVec.toNat_append, ← Nat.shiftLeft_add_eq_or_of_lt lo.isLt, Nat.shiftLeft_eq, Nat.mul_comm]

theorem isToken_of_hexTok {t : Bytes} {v : Byte} (h : hexTok t = some v) : IsToken t v := by
  unfold hexTok at h
  split at h
  · rename_i ch cl
    split at h
    · rename_i hi lo hhi hlo
      cases h
      exact ⟨ch, cl, hi.toNat, lo.toNat, rfl, isDigit_of_digVal hhi, isDigit_of_digVal hlo, toNat_nibbles hi lo⟩
    · cases h
  · cases h

theorem forall₂_isToken_of_hexToks {ts : List Bytes} {b : Bytes} (h : hexToks ts = some b) :
    List.Forall₂ IsToken ts b := by
  induction ts generalizing b with
  | nil => cases h; exact .nil
  | cons t rest ih =>
    unfold hexToks at h
    split at h
    · cases h
    · rename_i v hv
      split at h
      · cases h
      · rename_i vs hvs
        cases h
        exact .cons (isToken_of_hexTok hv) (ih hvs)

/-! ### The Packets of OK responses -/

/-- Settles O50: an OK response is a Packet FRAMEFN or DEFRAMEFN returned, which meets the invariants; the sentinels are the ends
of what FRAMEFN's Packet is written as and of what DEFRAMEFN accepted. -/
theorem returnedPacketsMeetTheInvariants : Obligations.ReturnedPacketsMeetTheInvariants := by
  refine ⟨?built, ?frameEnds, ?encodeEnds, ?checked, ?deframeEnds, ?decodeEnds⟩
  case built =>
    intro t d bus s rsp h hok
    obtain ⟨p, out, hp, rfl⟩ : ∃ p out, frameFn t d bus s.payload = .ok p ∧ rsp = Response.ofPacket p out := by
      obtain h | h := h
      · obtain ⟨p, hp, hrsp⟩ := frame_ok h hok
        exact ⟨p, _, hp, hrsp⟩
      · obtain ⟨p, hp, hrsp⟩ := encode_ok h hok
        exact ⟨p, _, hp, hrsp⟩
    obtain ⟨hinv, hdata⟩ := frameFn_ok hp
    exact hdata ▸ ⟨hinv.length_eq, hinv.crc_eq⟩
  case frameEnds =>
    intro t d bus s rsp h hok
    obtain ⟨p, -, rfl⟩ := frame_ok h hok
    obtain ⟨l, mid, hwire⟩ := wire_eq_sentinels p
    simp [Response.ofPacket, hwire, List.getLast?_cons]
  case encodeEnds =>
    intro t d bus s rsp h hok
    obtain ⟨p, -, rfl⟩ := encode_ok h hok
    obtain ⟨l, mid, hwire⟩ := wire_eq_sentinels p
    simp only [Response.ofPacket, hwire]
    exact ⟨hexLine_begins_with_token 0xAA#8 l _, hexLine_ends_with_token 0xAA#8 0xFF#8 (l :: mid)⟩
  case checked =>
    intro s rsp h hok
    obtain ⟨b, p, hp, rfl⟩ : ∃ b p, deframeFn b = .ok p ∧ rsp = Response.ofPacket p p.data := by
      obtain h | h := h
      · exact ⟨_, deframe_ok h hok⟩
      · obtain ⟨b, p, -, hp, hrsp⟩ := decode_ok h hok
        exact ⟨b, p, hp, hrsp⟩
    obtain ⟨hinv, -⟩ := deframeFn_ok hp
    exact ⟨hinv.length_eq, hinv.crc_eq⟩
  case deframeEnds =>
    intro s rsp h hok
    obtain ⟨p, hp, -⟩ := deframe_ok h hok
    exact (deframeFn_ok hp).2
  case decodeEnds =>
    intro s rsp h hok
    obtain ⟨b, p, hb, hp, -⟩ := decode_ok h hok
    exact ⟨b, forall₂_isToken_of_hexToks hb, (deframeFn_ok hp).2⟩

end Sys2Proof.Proofs.Stateless

/-! SUPPORT. Family 20_memory.md: every step keeps the invariant, PAYLOAD_MAX refuses exactly the longer payloads (R68), and
a sequence of requests is answered request by request (R69). -/

namespace Sys2Proof.Proofs.Memory

open Sys2Proof Sys2Proof.Machine Sys2Proof.Claims Sys2Proof.Proofs.Scope Sys2Proof.Proofs.Stateless

/-! ### Legal responses -/

/-- Fields left unwritten are 0 (10_state.md R34), and the split of 0 is 0. -/
theorem split_of_zero : 0#7 = unpackBus 0#8 ∧ 0#1 = unpackDir 0#8 ∧ 0#1 = unpackDirRef 0#8 := by decide

theorem responseLegal_ofError (e : ErrorKind) : ResponseLegal (Response.ofError e) :=
  ⟨fun _ he => congrArg Response.ofError (Status.error.inj he), split_of_zero⟩

/-- An OK response carries no kind, so only the split of `YC` is asked of it. -/
theorem responseLegal_of_ok {r : Response} (hok : r.status = .ok)
    (hsplit : r.bus7 = unpackBus r.yc ∧ r.diro = unpackDir r.yc ∧ r.dirref = unpackDirRef r.yc) : ResponseLegal r :=
  ⟨fun _ he => absurd (hok.symm.trans he) nofun, hsplit⟩

/-- A Packet whose direction and busNumber are the split of its combined byte (10_state.md R35). -/
def FieldsSplit (p : Packet) : Prop := p.direction = unpackDir p.combined ∧ p.busNumber = unpackBus p.combined

theorem frameFn_fieldsSplit {t : Byte} {d : BitVec 1} {bus : Byte} {data : Bytes} {p : Packet}
    (h : frameFn t d bus data = .ok p) : FieldsSplit p := by
  unfold frameFn at h
  split at h
  · cases h
  · cases h
    exact ⟨rfl, rfl⟩

theorem deframeFn_fieldsSplit {b : Bytes} {p : Packet} (h : deframeFn b = .ok p) : FieldsSplit p := by
  unfold deframeFn at h
  split at h
  · cases h
  split at h
  · cases h
  · cases h
    exact ⟨rfl, rfl⟩

theorem responseLegal_answerPacket (out : Packet → Bytes) {x : Except ErrorKind Packet}
    (h : ∀ p, x = .ok p → FieldsSplit p) : ResponseLegal (answerPacket out x) := by
  cases x with
  | error e => exact responseLegal_ofError e
  | ok p =>
    obtain ⟨hdir, hbus⟩ := h p rfl
    exact responseLegal_of_ok rfl ⟨hbus, hdir, rfl⟩

/-- Each operation's response is legal: it writes none of the four fields, or splits the combined byte itself (41_fields.md
R142, R143), or carries a Packet or an error. -/
theorem responseLegal_answerInstr (i : Instr) (payload : Bytes) : ResponseLegal (answerInstr i payload) := by
  cases i with
  | crc16 => exact responseLegal_of_ok rfl split_of_zero
  | crcStep a16 a0 => exact responseLegal_of_ok rfl split_of_zero
  | pack dir a1 => exact responseLegal_of_ok rfl ⟨rfl, rfl, rfl⟩
  | unpack a0 => exact responseLegal_of_ok rfl ⟨rfl, rfl, rfl⟩
  | hexencByte a0 => exact responseLegal_of_ok rfl split_of_zero
  | hexdecToken =>
    unfold answerInstr
    cases hexTok payload with
    | none => exact responseLegal_ofError _
    | some v => exact responseLegal_of_ok rfl split_of_zero
  | hexencLine => exact responseLegal_of_ok rfl split_of_zero
  | hexdecLine =>
    unfold answerInstr
    cases hexBytes payload with
    | none => exact responseLegal_ofError _
    | some b => exact responseLegal_of_ok rfl split_of_zero
  | frame a0 dir a1 => exact responseLegal_answerPacket _ fun _ => frameFn_fieldsSplit
  | deframe => exact responseLegal_answerPacket _ fun _ => deframeFn_fieldsSplit
  | encode a0 dir a1 => exact responseLegal_answerPacket _ fun _ => frameFn_fieldsSplit
  | decode =>
    unfold answerInstr
    cases hexBytes payload with
    | none => exact responseLegal_ofError _
    | some b => exact responseLegal_answerPacket _ fun _ => deframeFn_fieldsSplit

/-! ### Every step keeps the invariant -/

/-- The one write a transaction makes to the interface keeps the invariant. -/
theorem legal_respond {s : State} {rsp : Response} (hmax : payloadMaxLegal s.payloadMax = true) (hrsp : ResponseLegal rsp) :
    Legal (s.respond rsp) :=
  ⟨hmax, fun _ hr => Option.some.inj hr ▸ hrsp, s.respond_work rsp⟩

theorem legal_applyReset {s : State} (hmax : payloadMaxLegal s.payloadMax = true) : Legal s.applyReset :=
  ⟨hmax, nofun, s.applyReset_work⟩

/-- Settles O23, along what a step can have done: served a reset, nothing, answered IllegalOp, or run an operation. -/
theorem stepKeepsLegal : Obligations.StepKeepsLegal := by
  intro s t hs hstep
  have ⟨hmax, _, _⟩ := hs
  obtain ⟨-, rfl⟩ | ⟨-, -, rfl⟩ | ⟨-, r, e, -, -, rfl⟩ | ⟨-, r, i, -, -, -, hexec⟩ := step_next_cases hstep
  · exact legal_applyReset hmax
  · exact hs
  · exact legal_respond hmax (responseLegal_ofError .illegalOp)
  · rw [exec_eq_respond] at hexec
    cases hexec
    exact legal_respond hmax (responseLegal_answerInstr i s.payload)

/-! ### Words that spell an operation -/

theorem extractLsb'_eq_zero_iff {v a n : Nat} {w : BitVec v} :
    w.extractLsb' a n = 0#n ↔ ∀ k, a ≤ k → k < a + n → w.getLsbD k = false := by
  constructor
  · intro h k hlow hhigh
    have hbit := congrArg (·.getLsbD (k - a)) h
    simpa [BitVec.getLsbD_extractLsb', Nat.add_sub_cancel' hlow, show k - a < n by omega] using hbit
  · intro h
    refine BitVec.eq_of_getLsbD_eq fun k hk => ?_
    rw [BitVec.getLsbD_extractLsb', h (a + k) (Nat.le_add_right a k) (Nat.add_lt_add_left hk a)]
    simp

/-- The mask's 1s are the reserved bits 63:48, 31:25 and 7:4 (30_encoding.md R80). -/
theorem rsvMask_getLsbD : ∀ k < 64,
    rsvMask.getLsbD k = decide (48 ≤ k ∨ (25 ≤ k ∧ k < 32) ∨ (4 ≤ k ∧ k < 8)) := by decide

/-- The decoder's mask and the bit ranges of 30_encoding.md R80 test the same bits. -/
theorem reqRsv_eq_zero_iff (w : Word64) : reqRsv w = 0#64 ↔ reservedBitsClear w = true := by
  simp only [reservedBitsClear, Bool.and_eq_true, beq_iff_eq, extractLsb'_eq_zero_iff]
  constructor
  · intro h
    have hclear (k : Nat) (hk : k < 64) (hrsv : 48 ≤ k ∨ (25 ≤ k ∧ k < 32) ∨ (4 ≤ k ∧ k < 8)) : w.getLsbD k = false := by
      have hbit := congrArg (·.getLsbD k) h
      simpa [reqRsv, rsvMask_getLsbD k hk, hrsv] using hbit
    exact ⟨⟨fun k _ _ => hclear k (by omega) (by omega), fun k _ _ => hclear k (by omega) (by omega)⟩,
      fun k _ _ => hclear k (by omega) (by omega)⟩
  · rintro ⟨⟨hhigh, hmid⟩, hlow⟩
    refine BitVec.eq_of_getLsbD_eq fun k hk => ?_
    rw [reqRsv, BitVec.getLsbD_and, rsvMask_getLsbD k hk, BitVec.getLsbD_zero, Bool.and_eq_false_iff, decide_eq_false_iff_not]
    by_cases hrsv : 48 ≤ k ∨ (25 ≤ k ∧ k < 32) ∨ (4 ≤ k ∧ k < 8)
    · obtain h | ⟨h, h'⟩ | ⟨h, h'⟩ := hrsv
      · exact .inl (hhigh k h hk)
      · exact .inl (hmid k h h')
      · exact .inl (hlow k h h')
    · exact .inr hrsv

/-- Twelve of the decoder's thirteen arms are operations; the other is left for `OP` of 0xC and up (30_encoding.md R83). -/
theorem exists_decode_of_requestWordOk {w : Word64} (h : requestWordOk w = true) : ∃ i, decode w = .ok i := by
  obtain ⟨hclear, hop⟩ : reservedBitsClear w = true ∧ opDefined w = true := by simpa [requestWordOk] using h
  have hlt : (reqOp w).toNat < 12 := of_decide_eq_true hop
  rw [decode, if_neg (not_not.mpr ((reqRsv_eq_zero_iff w).mpr hclear))]
  split
  case h_13 =>
    simp only [imp_false] at *
    bv_omega
  all_goals exact ⟨_, rfl⟩

/-! ### PAYLOAD_MAX -/

theorem step_of_overlong {s : State} {r : Request} {i : Instr} {m : Nat} (hp : s.resetPending = false)
    (hr : s.request = some r) (hd : decode r.word = .ok i) (hm : s.payloadMax = some m) (hlen : m < r.payload.length) :
    step s = .refused (.payloadOverMax r.payload.length m) := by
  simp only [step_of_request hp hr, State.transact, hd, hm, if_neg (Nat.not_le.mpr hlen)]

/-- A step stops only on the payload of a request in flight: a reset is served, and an idle block goes on. -/
theorem stepsOn_of_payloadHeld {s : State} (h : PayloadHeld s) : StepsOn s := by
  cases hp : s.resetPending with
  | true => exact ⟨s.applyReset, by simp [step, State.stepOnce, hp]⟩
  | false =>
    cases hr : s.request with
    | none => exact ⟨s, by simp [step, State.stepOnce, hp, hr]⟩
    | some r =>
      obtain ⟨t, ht, -⟩ := step_answers ⟨hp, hr, h r hr⟩
      exact ⟨t, ht⟩

/-- Settles O13: the transaction compares the payload of a word that spells an operation with PAYLOAD_MAX, and one within it
is answered. -/
theorem payloadBoundRefusesOnlyAboveIt : Obligations.PayloadBoundRefusesOnlyAboveIt := by
  constructor
  · intro s r m hp hr hword hm
    constructor
    · intro hlen
      obtain ⟨i, hd⟩ := exists_decode_of_requestWordOk hword
      exact step_of_overlong hp hr hd hm hlen
    · intro hlen
      have hfits : payloadFits s.payloadMax r.payload = true := by simpa [payloadFits, hm] using hlen
      exact ⟨answer r, step_answers ⟨hp, hr, hfits⟩⟩
  · intro s hm
    exact stepsOn_of_payloadHeld fun r _ => by simp [payloadFits, hm]

/-! ### Sessions -/

/-- The first request of a session gets its own answer and leaves the block as ready for the others as it was. -/
theorem serve_cons {s : State} {r : Request} (hidle : s.request = none) (hp : s.resetPending = false)
    (hfits : payloadFits s.payloadMax r.payload = true) :
    ∃ done, done.request = none ∧ done.resetPending = false ∧ done.payloadMax = s.payloadMax ∧
      ∀ rest as last, serve rest done = some (as, last) → serve (r :: rest) s = some (answer r :: as, last) := by
  have hissue : s.issue r = some { s with request := some r, response := none } := by simp only [State.issue, hidle]
  obtain ⟨done, hstep, hrsp, hreq, hmax, hpend⟩ :=
    step_answers (s := { s with request := some r, response := none }) ⟨hp, rfl, hfits⟩
  refine ⟨done, hreq, hpend.trans hp, hmax, fun rest as last hrest => ?_⟩
  simp only [serve, hissue, hstep, State.readResponse, hrsp, hrest]

/-- Settles O22, by induction on the requests: each leaves a state from which the others are served in the same way. -/
theorem sessionAnswersEachRequestAsAlone : Obligations.SessionAnswersEachRequestAsAlone := by
  intro rs
  induction rs with
  | nil => exact fun s hidle hp _ => ⟨s, rfl, hidle, hp, rfl⟩
  | cons r rest ih =>
    intro s hidle hp hfits
    obtain ⟨hfirst, hrest⟩ := List.forall_mem_cons.mp hfits
    obtain ⟨done, hdone, hdoneReset, hmax, hserve⟩ := serve_cons hidle hp hfirst
    obtain ⟨last, hlast, hlastIdle, hlastReset, hlastMax⟩ := ih done hdone hdoneReset (hmax ▸ hrest)
    exact ⟨last, hserve rest _ last hlast, hlastIdle, hlastReset, hlastMax.trans hmax⟩

end Sys2Proof.Proofs.Memory

/-! SUPPORT. Family 30_encoding.md: the decoder and the encoder agree (R80 to R86), every field of both words stands in its
place (R80, R81), what spells no operation is IllegalOp (R83, R84), and the text and frame operations are the composites
and the layout the rules give (R89, R93, R98). -/

namespace Sys2Proof.Proofs.Encoding

open Sys2Proof Sys2Proof.Machine Sys2Proof.Claims Sys2Proof.Proofs.Scope Sys2Proof.Proofs.Stateless Sys2Proof.Proofs.Memory

/-! ### Fields of a word -/

/-- A field is known from its bits. -/
theorem extractLsb'_eq_of_bits {v n a : Nat} {w : BitVec v} {x : BitVec n}
    (h : ∀ k < n, w.getLsbD (a + k) = x.getLsbD k) : w.extractLsb' a n = x := by
  refine BitVec.eq_of_getLsbD_eq fun k hk => ?_
  rw [BitVec.getLsbD_extractLsb', h k hk, decide_eq_true hk, Bool.true_and]

theorem toNat_and_0xF (w : Word64) : (w &&& 0xF#64).toNat = (w.extractLsb' 0 4).toNat := by
  rw [BitVec.toNat_and, BitVec.extractLsb'_toNat, Nat.shiftRight_zero]
  exact Nat.and_two_pow_sub_one_eq_mod w.toNat 4

theorem and_0xF_eq_iff (w : Word64) (op : BitVec 4) : w &&& 0xF#64 = op.setWidth 64 ↔ reqOp w = op := by
  rw [← BitVec.toNat_inj, ← BitVec.toNat_inj, toNat_and_0xF, BitVec.toNat_setWidth_of_le (by decide), reqOp]

/-! ### The fields of a request word (30_encoding.md R80)

Each fact is one about bits: `requestWord_getLsbD` names the field a bit belongs to, range by range. -/

section RequestWord

variable (op op' : BitVec 4) (a0 a1 a0' a1' : Byte) (dir dir' : BitVec 1) (a16 a16' : Word16)

@[simp] theorem reqOp_requestWord : reqOp (requestWord op a0 a1 dir a16) = op :=
  extractLsb'_eq_of_bits fun k hk => by grind [requestWord_getLsbD]

@[simp] theorem reqA0_requestWord : reqA0 (requestWord op a0 a1 dir a16) = a0 :=
  extractLsb'_eq_of_bits fun k hk => by grind [requestWord_getLsbD]

@[simp] theorem reqA1_requestWord : reqA1 (requestWord op a0 a1 dir a16) = a1 :=
  extractLsb'_eq_of_bits fun k hk => by grind [requestWord_getLsbD]

@[simp] theorem reqDir_requestWord : reqDir (requestWord op a0 a1 dir a16) = dir :=
  extractLsb'_eq_of_bits fun k hk => by grind [requestWord_getLsbD]

@[simp] theorem reqA16_requestWord : reqA16 (requestWord op a0 a1 dir a16) = a16 :=
  extractLsb'_eq_of_bits fun k hk => by grind [requestWord_getLsbD]

@[simp] theorem reqRsv_requestWord : reqRsv (requestWord op a0 a1 dir a16) = 0#64 := by
  refine BitVec.eq_of_getLsbD_eq fun k hk => ?_
  rw [reqRsv, BitVec.getLsbD_and, rsvMask_getLsbD k hk, requestWord_getLsbD]
  grind

theorem requestWord_inj : requestWord op a0 a1 dir a16 = requestWord op' a0' a1' dir' a16' ↔
    op = op' ∧ a0 = a0' ∧ a1 = a1' ∧ dir = dir' ∧ a16 = a16' := by
  constructor
  · intro h
    exact ⟨by simpa using congrArg reqOp h, by simpa using congrArg reqA0 h, by simpa using congrArg reqA1 h,
      by simpa using congrArg reqDir h, by simpa using congrArg reqA16 h⟩
  · rintro ⟨rfl, rfl, rfl, rfl, rfl⟩
    rfl

theorem requestWord_and : requestWord op a0 a1 dir a16 &&& requestWord op' a0' a1' dir' a16' =
    requestWord (op &&& op') (a0 &&& a0') (a1 &&& a1') (dir &&& dir') (a16 &&& a16') := by
  refine BitVec.eq_of_getLsbD_eq fun k hk => ?_
  simp only [BitVec.getLsbD_and, requestWord_getLsbD]
  grind

theorem requestWord_eq_or : requestWord op a0 a1 dir a16 =
    (a16.setWidth 64 <<< 32) ||| (dir.setWidth 64 <<< 24) ||| (a1.setWidth 64 <<< 16) ||| (a0.setWidth 64 <<< 8)
      ||| op.setWidth 64 := by
  refine BitVec.eq_of_getLsbD_eq fun k hk => ?_
  simp only [BitVec.getLsbD_or, requestWord_getLsbD]
  grind

end RequestWord

/-- A word is made of its fields when its other bits, the reserved ones, are 0. -/
theorem eq_requestWord_of_clear {w : Word64} (h : reqRsv w = 0#64) :
    w = requestWord (reqOp w) (reqA0 w) (reqA1 w) (reqDir w) (reqA16 w) := by
  rw [reqRsv_eq_zero_iff] at h
  simp only [reservedBitsClear, Bool.and_eq_true, beq_iff_eq, extractLsb'_eq_zero_iff] at h
  obtain ⟨⟨hhigh, hmid⟩, hlow⟩ := h
  refine BitVec.eq_of_getLsbD_eq fun k hk => ?_
  rw [requestWord_getLsbD]
  grind [reqOp, reqA0, reqA1, reqDir, reqA16]

theorem fields_eq_shifts (w : Word64) : reqA0 w = wA0 w ∧ reqA1 w = wA1 w ∧ reqDir w = wDir w ∧ reqA16 w = wA16 w :=
  ⟨BitVec.setWidth_ushiftRight_eq_extractLsb.symm, BitVec.setWidth_ushiftRight_eq_extractLsb.symm,
    BitVec.setWidth_ushiftRight_eq_extractLsb.symm, BitVec.setWidth_ushiftRight_eq_extractLsb.symm⟩

/-! ### The decoder -/

/-- The operation an `OP` selects, with the operand fields it uses (30_encoding.md R82, R83, R86). -/
def operation (op : BitVec 4) (a0 a1 : Byte) (dir : BitVec 1) (a16 : Word16) : Except DecodeError Instr :=
  match op with
  | 0x0#4 => .ok .crc16
  | 0x1#4 => .ok (.crcStep a16 a0)
  | 0x2#4 => .ok (.pack dir a1)
  | 0x3#4 => .ok (.unpack a0)
  | 0x4#4 => .ok (.hexencByte a0)
  | 0x5#4 => .ok .hexdecToken
  | 0x6#4 => .ok .hexencLine
  | 0x7#4 => .ok .hexdecLine
  | 0x8#4 => .ok (.frame a0 dir a1)
  | 0x9#4 => .ok .deframe
  | 0xA#4 => .ok (.encode a0 dir a1)
  | 0xB#4 => .ok .decode
  | _ => .error .reservedOp

/-- With no reserved bit set, decoding is the choice of the operation. -/
theorem decode_of_clear {w : Word64} (h : reqRsv w = 0#64) :
    decode w = operation (reqOp w) (reqA0 w) (reqA1 w) (reqDir w) (reqA16 w) := by
  rw [decode, if_neg (not_not.mpr h)]
  rfl

theorem decode_of_reserved {w : Word64} (h : reqRsv w ≠ 0#64) : decode w = .error .reservedBits := by
  rw [decode, if_pos h]

theorem reqRsv_eq_zero_of_decode {w : Word64} {i : Instr} (h : decode w = .ok i) : reqRsv w = 0#64 := by
  by_contra hrsv
  rw [decode_of_reserved hrsv] at h
  cases h

theorem decode_requestWord (op : BitVec 4) (a0 a1 : Byte) (dir : BitVec 1) (a16 : Word16) :
    decode (requestWord op a0 a1 dir a16) = operation op a0 a1 dir a16 := by
  simp only [decode_of_clear (reqRsv_requestWord op a0 a1 dir a16), reqOp_requestWord, reqA0_requestWord,
    reqA1_requestWord, reqDir_requestWord, reqA16_requestWord]

theorem lt_of_operation_ok {op : BitVec 4} {a0 a1 : Byte} {dir : BitVec 1} {a16 : Word16} {i : Instr}
    (h : operation op a0 a1 dir a16 = .ok i) : op.toNat < 12 := by
  unfold operation at h
  split at h
  case h_13 => cases h
  all_goals decide

/-- Settles O1: the word of an operation has the `OP` of its row in 30_encoding.md R82 and its operands in their fields. -/
theorem encodedInstructionDecodesBack : Obligations.EncodedInstructionDecodesBack := by
  intro i
  cases i <;> exact decode_requestWord _ _ _ _ _

/-- Settles O2: the decoder rejects a set reserved bit and an `OP` of 12 and up, and nothing else. -/
theorem wordDecodesIffWellFormed : Obligations.WordDecodesIffWellFormed := by
  intro w
  constructor
  · rintro ⟨i, h⟩
    have hclear := reqRsv_eq_zero_of_decode h
    rw [decode_of_clear hclear] at h
    rw [requestWordOk, (reqRsv_eq_zero_iff w).mp hclear, Bool.true_and]
    exact decide_eq_true (lt_of_operation_ok h)
  · exact exists_decode_of_requestWordOk

/-- Decoding in the terms of the rule: fields as shifts, `OP` under its mask. -/
theorem decode_of_op {w : Word64} {op : BitVec 4} (hclear : reqRsv w = 0#64) (hop : w &&& 0xF#64 = op.setWidth 64) :
    decode w = operation op (wA0 w) (wA1 w) (wDir w) (wA16 w) := by
  obtain ⟨ha0, ha1, hdir, ha16⟩ := fields_eq_shifts w
  rw [decode_of_clear hclear, (and_0xF_eq_iff w op).mp hop, ha0, ha1, hdir, ha16]

/-- Settles O3: each `OP` in turn selects its operation, on the fields as shifts. -/
theorem opcodeSelectsOperationAndFields : Obligations.OpcodeSelectsOperationAndFields := by
  intro w hclear
  exact ⟨decode_of_op (op := 0x0#4) hclear, decode_of_op (op := 0x1#4) hclear, decode_of_op (op := 0x2#4) hclear,
    decode_of_op (op := 0x3#4) hclear, decode_of_op (op := 0x4#4) hclear, decode_of_op (op := 0x5#4) hclear,
    decode_of_op (op := 0x6#4) hclear, decode_of_op (op := 0x7#4) hclear, decode_of_op (op := 0x8#4) hclear,
    decode_of_op (op := 0x9#4) hclear, decode_of_op (op := 0xA#4) hclear, decode_of_op (op := 0xB#4) hclear⟩

/-- Settles O4: a field that is 0 adds nothing to the or of the shifted fields. -/
theorem encodingsMatchTheRulesFormulas : Obligations.EncodingsMatchTheRulesFormulas := by
  refine ⟨rfl, fun v b => ?_, fun d bus => ?_, fun c => ?_, fun b => ?_, rfl, rfl, rfl, fun t d bus => ?_, rfl,
    fun t d bus => ?_, rfl⟩
  all_goals simp [encode, requestWord_eq_or]

/-! ### Fields and payloads an operation does not use (30_encoding.md R85) -/

/-- The rows of 30_encoding.md R86 with an `A0`. -/
def usesA0 : Instr → Bool
  | .crcStep _ _ | .unpack _ | .hexencByte _ | .frame _ _ _ | .encode _ _ _ => true
  | _ => false

/-- The rows of 30_encoding.md R86 with a busNumber in `A1` and a direction in `DIR`; no row has one without the other. -/
def usesBus : Instr → Bool
  | .pack _ _ | .frame _ _ _ | .encode _ _ _ => true
  | _ => false

/-- The rows of 30_encoding.md R86 with an `A16`. -/
def usesA16 : Instr → Bool
  | .crcStep _ _ => true
  | _ => false

/-- Every bit of a field, or none. -/
def fieldMask (n : Nat) (used : Bool) : BitVec n := if used then BitVec.allOnes n else 0#n

theorem and_fieldMask_eq_iff {n : Nat} {x y : BitVec n} {used : Bool} :
    x &&& fieldMask n used = y &&& fieldMask n used ↔ (used = true → x = y) := by
  cases used <;> simp [fieldMask]

/-- The used bits are whole fields: `OP` and those of the operation's row. -/
theorem usedBits_eq (i : Instr) : usedBits i = requestWord (BitVec.allOnes 4) (fieldMask 8 (usesA0 i))
    (fieldMask 8 (usesBus i)) (fieldMask 1 (usesBus i)) (fieldMask 16 (usesA16 i)) := by
  cases i <;> simp only [usedBits, usesA0, usesBus, usesA16] <;> decide

theorem fields_agree {op op' : BitVec 4} {a0 a1 a0' a1' : Byte} {dir dir' : BitVec 1} {a16 a16' : Word16} {i : Instr}
    (h : requestWord op' a0' a1' dir' a16' &&& usedBits i = requestWord op a0 a1 dir a16 &&& usedBits i) :
    op' = op ∧ (usesA0 i = true → a0' = a0) ∧ (usesBus i = true → a1' = a1) ∧ (usesBus i = true → dir' = dir) ∧
      (usesA16 i = true → a16' = a16) := by
  simpa only [usedBits_eq, requestWord_and, requestWord_inj, and_fieldMask_eq_iff, BitVec.and_allOnes] using h

/-- An operation is chosen by the fields it uses. -/
theorem operation_of_agree {op : BitVec 4} {a0 a1 a0' a1' : Byte} {dir dir' : BitVec 1} {a16 a16' : Word16} {i : Instr}
    (h : operation op a0 a1 dir a16 = .ok i) (ha0 : usesA0 i = true → a0' = a0) (ha1 : usesBus i = true → a1' = a1)
    (hdir : usesBus i = true → dir' = dir) (ha16 : usesA16 i = true → a16' = a16) :
    operation op a0' a1' dir' a16' = .ok i := by
  unfold operation at h
  split at h
  case h_13 => cases h
  all_goals
    cases h
    simp_all only [operation, usesA0, usesBus, usesA16]

theorem decode_of_agree {w w' : Word64} {i : Instr} (h : decode w = .ok i) (hclear : reqRsv w' = 0#64)
    (hagree : w' &&& usedBits i = w &&& usedBits i) : decode w' = .ok i := by
  have hw := reqRsv_eq_zero_of_decode h
  rw [eq_requestWord_of_clear hw, eq_requestWord_of_clear hclear] at hagree
  obtain ⟨hop, ha0, ha1, hdir, ha16⟩ := fields_agree hagree
  rw [decode_of_clear hw] at h
  rw [decode_of_clear hclear, hop]
  exact operation_of_agree h ha0 ha1 hdir ha16

/-- The operations of 30_encoding.md R85 that take no payload answer from their operands alone. -/
theorem answerInstr_of_takesNoPayload {i : Instr} (h : takesNoPayload i = true) (p q : Bytes) :
    answerInstr i p = answerInstr i q := by
  cases i with
  | crcStep a16 a0 => rfl
  | pack dir a1 => rfl
  | unpack a0 => rfl
  | hexencByte a0 => rfl
  | _ => cases h

theorem answer_of_decode {r : Request} {i : Instr} (h : decode r.word = .ok i) : answer r = answerInstr i r.payload := by
  simp only [answer, h]

/-- Settles O6: the decoder and the pure response of an operation read neither the unused fields nor an unused payload. -/
theorem unusedFieldsAndPayloadAreIgnored : Obligations.UnusedFieldsAndPayloadAreIgnored := by
  refine ⟨fun w w' i => decode_of_agree, ?steps, ?meanings⟩
  case steps =>
    intro s s' r r' i hs hs' hd hclear hagree hpayload
    have hanswer : answer r' = answer r := by
      rw [answer_of_decode hd, answer_of_decode (decode_of_agree hd hclear hagree)]
      cases hi : takesNoPayload i with
      | true => exact answerInstr_of_takesNoPayload hi _ _
      | false => rw [hpayload hi]
    exact ⟨answer r, step_answers hs, hanswer ▸ step_answers hs'⟩
  case meanings =>
    intro i s s' hi
    refine ⟨answerInstr i s.payload, registerMachineRefinesPureFunctions i s, ?_⟩
    rw [answerInstr_of_takesNoPayload hi s.payload s'.payload]
    exact registerMachineRefinesPureFunctions i s'

/-! ### The response word (30_encoding.md R81, R88) -/

/-- The mask's 1s are the always-0 bits 63:58, 55 and 7:4 (30_encoding.md R81). -/
theorem alwaysZeroMask_getLsbD : ∀ k < 64,
    (0xFC800000000000F0#64).getLsbD k = decide (58 ≤ k ∨ k = 55 ∨ (4 ≤ k ∧ k < 8)) := by decide

/-- A field of the response word, read by a shift, is known from the word's bits. -/
theorem word_field_eq {r : Response} {n a : Nat} {x : BitVec n} (h : ∀ k < n, r.word.getLsbD (a + k) = x.getLsbD k) :
    (r.word >>> a).setWidth n = x :=
  BitVec.setWidth_ushiftRight_eq_extractLsb.trans (extractLsb'_eq_of_bits h)

theorem word_eq_or (r : Response) :
    r.word = r.status.code.setWidth 64 ||| (r.y0.setWidth 64 <<< 8) ||| (r.y1.setWidth 64 <<< 16)
      ||| (r.yc.setWidth 64 <<< 24) ||| (r.y16.setWidth 64 <<< 32) ||| (r.bus7.setWidth 64 <<< 48)
      ||| (r.diro.setWidth 64 <<< 56) ||| (r.dirref.setWidth 64 <<< 57) := by
  refine BitVec.eq_of_getLsbD_eq fun k hk => ?_
  simp only [BitVec.getLsbD_or, Response.word_getLsbD]
  obtain hlow | hhigh := Nat.lt_or_ge k 32
  · grind
  · grind

theorem word_and_alwaysZeroMask (r : Response) : r.word &&& 0xFC800000000000F0#64 = 0#64 := by
  refine BitVec.eq_of_getLsbD_eq fun k hk => ?_
  rw [BitVec.getLsbD_and, alwaysZeroMask_getLsbD k hk, Response.word_getLsbD]
  grind

theorem extractLsb'_word_status (r : Response) : r.word.extractLsb' 0 4 = r.status.code :=
  extractLsb'_eq_of_bits fun k hk => by grind [Response.word_getLsbD]

/-- Settles O7: the word's bits, range by range, are the fields' bits and the 0s between them. -/
theorem responseWordAssembly : Obligations.ResponseWordAssembly := by
  intro r
  refine ⟨word_eq_or r, word_and_alwaysZeroMask r, ?status, word_field_eq ?y0, word_field_eq ?y1, word_field_eq ?yc,
    word_field_eq ?y16, word_field_eq ?bus7, word_field_eq ?diro, word_field_eq ?dirref⟩
  case status => rw [BitVec.setWidth_eq_extractLsb' (by decide), extractLsb'_word_status]
  all_goals
    intro k hk
    grind [Response.word_getLsbD]

theorem code_le_seven (s : Status) : s.code.toNat ≤ 7 := by
  cases s with
  | ok => decide
  | error e => cases e <;> decide

/-- Settles O8: the codes are the table's, and the STATUS bits of a word are a code. -/
theorem statusCodesStayBelowEight : Obligations.StatusCodesStayBelowEight := by
  refine ⟨rfl, rfl, rfl, rfl, rfl, rfl, rfl, rfl, fun r => ?_⟩
  rw [toNat_and_0xF, extractLsb'_word_status]
  exact code_le_seven r.status

/-! ### Words that spell no operation (30_encoding.md R83, R84) -/

theorem step_of_decode_error {s : State} {r : Request} {e : DecodeError} (hp : s.resetPending = false)
    (hr : s.request = some r) (hd : decode r.word = .error e) : Answers (step s) s (errorOf .illegalOp) := by
  rw [step_of_request hp hr]
  simp only [State.transact, hd]
  exact answers_respond s _

/-- Settles O10: the decoder rejects the word, and the step answers it without a look at the payload. -/
theorem reservedBitIsIllegalOp : Obligations.ReservedBitIsIllegalOp :=
  fun _ _ hp hr hrsv => step_of_decode_error hp hr (decode_of_reserved hrsv)

theorem exists_decode_error_of_op {w : Word64} (h : 12 ≤ (w &&& 0xF#64).toNat) : ∃ e, decode w = .error e := by
  cases hd : decode w with
  | error e => exact ⟨e, rfl⟩
  | ok i =>
    rw [decode_of_clear (reqRsv_eq_zero_of_decode hd)] at hd
    rw [toNat_and_0xF] at h
    exact absurd (lt_of_operation_ok hd) (Nat.not_lt.mpr h)

/-- Settles O11: an `OP` of 12 and up is rejected with or without a reserved bit, and the error response's word is its code. -/
theorem reservedOpcodeIsIllegalOp : Obligations.ReservedOpcodeIsIllegalOp := by
  intro s r hp hr hop
  obtain ⟨e, hd⟩ := exists_decode_error_of_op hop
  exact ⟨errorOf .illegalOp, step_of_decode_error hp hr hd, rfl, by decide, rfl⟩

/-- Settles O5: four of the words are what the encoder writes for the operation they stand for. -/
theorem writtenOutWordsDecode : Obligations.WrittenOutWordsDecode :=
  ⟨encodedInstructionDecodesBack (.crcStep 0xFFFF#16 0x03#8), encodedInstructionDecodesBack (.pack 1#1 0x05#8),
    encodedInstructionDecodesBack (.hexencByte 0x3C#8), encodedInstructionDecodesBack (.encode 0x12#8 1#1 0x05#8),
    decode_requestWord 0xC#4 0#8 0#8 0#1 0#16, decode_of_reserved (by decide)⟩

/-! ### Lines of requests (30_encoding.md R97) -/

/-- Settles O55: an operation's line is the encoder's word, which decodes back, so its reserved bits are 0. -/
theorem onlyRawWordsCanBeIllegal : Obligations.OnlyRawWordsCanBeIllegal := by
  intro l
  refine ⟨?illegal, ?operation, ?raw⟩
  case illegal =>
    rintro ⟨e, he⟩
    cases l with
    | op i p => exact absurd (he.symm.trans (encodedInstructionDecodesBack i)) nofun
    | raw w p => exact ⟨w, p, rfl, rfl⟩
  case operation =>
    rintro i p rfl
    have hd : decode (assemble (.op i p)).word = .ok i := encodedInstructionDecodesBack i
    exact ⟨hd, rfl, reqRsv_eq_zero_of_decode hd⟩
  case raw =>
    rintro w p rfl
    rfl

/-! ### Composites (30_encoding.md R98) -/

/-- ENCODE's response is FRAME's with the output payload as text; an error has none, and no bytes are no text. -/
theorem answerInstr_encode (t : Byte) (d : BitVec 1) (bus : Byte) (p : Bytes) :
    answerInstr (.encode t d bus) p = { answerInstr (.frame t d bus) p with
      payloadOut := hexLine (answerInstr (.frame t d bus) p).payloadOut } := by
  simp only [answerInstr]
  cases frameFn t d bus p with
  | error e => rfl
  | ok q => rfl

theorem answerInstr_decode_of_error {p : Bytes} (h : (answerInstr .hexdecLine p).status ≠ .ok) :
    answerInstr .decode p = answerInstr .hexdecLine p := by
  simp only [answerInstr] at h ⊢
  cases hb : hexBytes p with
  | none => rfl
  | some b =>
    rw [hb] at h
    exact absurd rfl h

theorem answerInstr_decode_of_ok {p : Bytes} (h : (answerInstr .hexdecLine p).status = .ok) :
    answerInstr .decode p = answerInstr .deframe (answerInstr .hexdecLine p).payloadOut := by
  simp only [answerInstr] at h ⊢
  cases hb : hexBytes p with
  | none =>
    rw [hb] at h
    cases h
  | some b => rfl

/-- Settles O48: the four operations answer their pure responses, of which ENCODE's and DECODE's are the composites. -/
theorem textOperationsAreComposites : Obligations.TextOperationsAreComposites := by
  constructor
  · intro t d bus s
    refine ⟨_, registerMachineRefinesPureFunctions (.frame t d bus) s, fun s' hs' =>
      ⟨_, registerMachineRefinesPureFunctions .hexencLine s', ?_⟩⟩
    have hencode := registerMachineRefinesPureFunctions (.encode t d bus) s
    rw [answerInstr_encode, ← hs'] at hencode
    exact hencode
  · intro s
    have hdecode := registerMachineRefinesPureFunctions .decode s
    refine ⟨_, registerMachineRefinesPureFunctions .hexdecLine s, fun herror => ?_, fun hok s' hs' =>
      ⟨_, registerMachineRefinesPureFunctions .deframe s', ?_⟩⟩
    · exact answerInstr_decode_of_error herror ▸ hdecode
    · rw [hs', ← answerInstr_decode_of_ok hok]
      exact hdecode

/-! ### The frames DEFRAME accepts (30_encoding.md R89, R93) -/

/-- The places of a frame: four bytes from its start, three from its end, data and slack between them. -/
def layout (start l t c : Byte) (mid : Bytes) (hi lo stop : Byte) : Bytes :=
  start :: l :: t :: c :: (mid ++ [hi, lo, stop])

theorem frameBytes_eq_layout (t c : Byte) (data slack : Bytes) (crc : Word16) :
    frameBytes t c data slack crc = layout 0xAA#8 (BitVec.ofNat 8 (3 + data.length)) t c (data ++ slack)
      ((crc >>> 8).setWidth 8) (crc.setWidth 8) 0xFF#8 := by
  simp only [frameBytes, layout, List.cons_append]

theorem length_layout (start l t c hi lo stop : Byte) (mid : Bytes) :
    (layout start l t c mid hi lo stop).length = mid.length + 7 := by
  simp only [layout, List.length_cons, List.length_append, List.length_nil]

/-- Every sequence of seven bytes and more has the places of a frame. -/
theorem exists_layout_of_length {b : Bytes} (h : 7 ≤ b.length) :
    ∃ start l t c mid hi lo stop, b = layout start l t c mid hi lo stop := by
  match b, h with
  | start :: l :: t :: c :: rest, h =>
    simp only [List.length_cons] at h
    obtain ⟨hi, lo, stop, hend⟩ : ∃ hi lo stop, rest.drop (rest.length - 3) = [hi, lo, stop] :=
      List.length_eq_three.mp (by rw [List.length_drop]; omega)
    exact ⟨start, l, t, c, rest.take (rest.length - 3), hi, lo, stop, by rw [layout, ← hend, List.take_append_drop]⟩

/-- The last three bytes, by their distance from the data and slack. -/
theorem byteAt_layout_end (start l t c hi lo stop : Byte) (mid : Bytes) (k : Nat) :
    byteAt (layout start l t c mid hi lo stop) (mid.length + 4 + k) = byteAt [hi, lo, stop] k := by
  rw [byteAt, show mid.length + 4 + k = mid.length + k + 1 + 1 + 1 + 1 by omega]
  simp only [layout, List.getD_cons_succ, List.getD_append_right _ _ _ _ (Nat.le_add_right _ _),
    Nat.add_sub_cancel_left, byteAt]

theorem parseFrame_of_short {b : Bytes} (h : b.length < 7) : parseFrame b = .error .frameTooShort := if_pos h

/-- The checks of 43_framer.md R193 and the fields it reads, by the places of a frame. -/
theorem parseFrame_layout (start l t c hi lo stop : Byte) (mid : Bytes) :
    parseFrame (layout start l t c mid hi lo stop) =
      if start ≠ 0xAA#8 ∨ stop ≠ 0xFF#8 then .error .badSentinel
      else if l.toNat < 3 ∨ mid.length + 3 < l.toNat then .error .lengthMismatch
      else .ok { length := l, signalType := t, combined := c, data := mid.take (l.toNat - 3), rx := hi ++ lo } := by
  have hhi : byteAt (layout start l t c mid hi lo stop) (mid.length + 7 - 3) = hi := byteAt_layout_end _ _ _ _ _ _ _ mid 0
  have hlo : byteAt (layout start l t c mid hi lo stop) (mid.length + 7 - 2) = lo := byteAt_layout_end _ _ _ _ _ _ _ mid 1
  have hstop : byteAt (layout start l t c mid hi lo stop) (mid.length + 7 - 1) = stop :=
    byteAt_layout_end _ _ _ _ _ _ _ mid 2
  have hstart : byteAt (layout start l t c mid hi lo stop) 0 = start := rfl
  have hl : byteAt (layout start l t c mid hi lo stop) 1 = l := rfl
  have ht : byteAt (layout start l t c mid hi lo stop) 2 = t := rfl
  have hc : byteAt (layout start l t c mid hi lo stop) 3 = c := rfl
  have hdrop : (layout start l t c mid hi lo stop).drop 4 = mid ++ [hi, lo, stop] := rfl
  simp only [parseFrame, length_layout, hhi, hlo, hstop, hstart, hl, ht, hc, hdrop, Config.minFrame, Config.start,
    Config.stop, Config.lenBias]
  rw [if_neg (by omega)]
  refine ite_congr rfl (fun _ => rfl) fun _ => ?_
  by_cases hlow : l.toNat < 3
  · rw [if_pos hlow, if_pos (.inl hlow)]
  by_cases hhigh : mid.length + 3 < l.toNat
  · rw [if_neg hlow, if_pos (by omega), if_pos (.inr hhigh)]
  · rw [if_neg hlow, if_neg (by omega), if_neg (not_or.mpr ⟨hlow, hhigh⟩), List.take_append_of_le_length (by omega)]

/-- The CRC field's two bytes, high byte first (20_memory.md R63), and back. -/
theorem crc_bytes_append (crc : Word16) : (crc >>> 8).setWidth 8 ++ crc.setWidth 8 = crc := by
  rw [BitVec.setWidth_ushiftRight_eq_extractLsb, BitVec.setWidth_eq_extractLsb' (by decide)]
  exact BitVec.extractLsb'_append_extractLsb'

theorem crc_high_byte (hi lo : Byte) : ((hi ++ lo : Word16) >>> 8).setWidth 8 = hi :=
  BitVec.setWidth_ushiftRight_eq_extractLsb.trans BitVec.extractLsb'_append_eq_left

theorem crc_low_byte (hi lo : Byte) : (hi ++ lo : Word16).setWidth 8 = lo :=
  (BitVec.setWidth_eq_extractLsb' (by decide)).trans BitVec.extractLsb'_append_eq_right

/-- The checks before the CRC's accept the frames of 30_encoding.md R89 and read their fields. -/
theorem parseFrame_frameBytes {t c : Byte} {data : Bytes} (slack : Bytes) (crc : Word16) (h : data.length ≤ 252) :
    parseFrame (frameBytes t c data slack crc) =
      .ok { length := BitVec.ofNat 8 (3 + data.length), signalType := t, combined := c, data := data, rx := crc } := by
  have hl : (BitVec.ofNat 8 (3 + data.length)).toNat = 3 + data.length :=
    (BitVec.toNat_ofNat _ 8).trans (Nat.mod_eq_of_lt (by omega))
  rw [frameBytes_eq_layout, parseFrame_layout, if_neg (by decide), hl, if_neg (by rw [List.length_append]; omega),
    Nat.add_sub_cancel_left, List.take_left, crc_bytes_append]

/-- Those checks accept nothing else. -/
theorem exists_frameBytes_of_parseFrame {b : Bytes} {f : ParsedFrame} (h : parseFrame b = .ok f) :
    f.length = BitVec.ofNat 8 (3 + f.data.length) ∧ f.data.length ≤ 252 ∧
      ∃ slack, b = frameBytes f.signalType f.combined f.data slack f.rx := by
  obtain ⟨-, -, hlen⟩ := parseFrame_ok h
  have hbyte : f.length = BitVec.ofNat 8 (3 + f.data.length) := by rw [← hlen, BitVec.ofNat_toNat, BitVec.setWidth_eq]
  refine ⟨hbyte, by omega, ?_⟩
  by_cases hshort : b.length < 7
  · rw [parseFrame_of_short hshort] at h
    cases h
  obtain ⟨start, l, t, c, mid, hi, lo, stop, rfl⟩ := exists_layout_of_length (Nat.not_lt.mp hshort)
  rw [parseFrame_layout] at h
  split at h
  · cases h
  rename_i hsentinels
  split at h
  · cases h
  cases h
  obtain ⟨rfl, rfl⟩ : start = 0xAA#8 ∧ stop = 0xFF#8 := by simpa using hsentinels
  refine ⟨mid.drop (l.toNat - 3), ?_⟩
  rw [frameBytes_eq_layout, ← hbyte, List.take_append_drop, crc_high_byte, crc_low_byte]

/-- The Packet a frame of 30_encoding.md R89 stands for. -/
def framePacket (t c : Byte) (data : Bytes) : Packet :=
  Packet.ofWire (BitVec.ofNat 8 (3 + data.length)) t c data (frameCrc t c data)

theorem ofPacket_framePacket (t c : Byte) (data out : Bytes) :
    Response.ofPacket (framePacket t c data) out = packetResponse t c data out := by
  have hbus : unpackBus c = c.setWidth 7 := (BitVec.setWidth_eq_extractLsb' (by decide)).symm
  have hdirref : unpackDirRef c = c.setWidth 1 := (BitVec.setWidth_eq_extractLsb' (by decide)).symm
  have hdir : unpackDir c = (c >>> 7).setWidth 1 := BitVec.setWidth_ushiftRight_eq_extractLsb.symm
  simp only [Response.ofPacket, framePacket, Packet.ofWire, packetResponse, hbus, hdirref, hdir]

/-- DEFRAMEFN on a frame of the layout, whatever CRC it carries (43_framer.md R193). -/
theorem deframeFn_frameBytes {t c : Byte} {data : Bytes} (slack : Bytes) (crc : Word16) (h : data.length ≤ 252) :
    deframeFn (frameBytes t c data slack crc) =
      if frameCrc t c data = crc then .ok (framePacket t c data) else .error .integrityError := by
  have hrun : crc16 (crcInput (BitVec.ofNat 8 (3 + data.length)) t c data) = frameCrc t c data := crc16_eq_crcOf _
  simp only [deframeFn, parseFrame_frameBytes slack crc h, hrun, ne_eq, ite_not]
  refine ite_congr rfl (fun hcrc => ?_) fun _ => rfl
  rw [framePacket, hcrc]

theorem exists_frameBytes_of_deframeFn {b : Bytes} {p : Packet} (h : deframeFn b = .ok p) :
    ∃ t c data slack, data.length ≤ 252 ∧ b = frameBytes t c data slack (frameCrc t c data) := by
  cases hf : parseFrame b with
  | error e => simp only [deframeFn, hf] at h; cases h
  | ok f =>
    obtain ⟨-, hlen, slack, rfl⟩ := exists_frameBytes_of_parseFrame hf
    rw [deframeFn_frameBytes slack f.rx hlen] at h
    split at h
    · rename_i hcrc
      exact ⟨_, _, _, slack, hlen, by rw [hcrc]⟩
    · cases h

/-- DEFRAME's response to a frame of the layout: nothing of the slack is in it. -/
theorem answerInstr_deframe_frameBytes {t c : Byte} {data : Bytes} (slack : Bytes) (crc : Word16)
    (h : data.length ≤ 252) : answerInstr .deframe (frameBytes t c data slack crc) =
      if frameCrc t c data = crc then packetResponse t c data data else errorOf .integrityError := by
  simp only [answerInstr, deframeFn_frameBytes slack crc h]
  split
  · exact ofPacket_framePacket t c data data
  · rfl

/-- Settles O47: DEFRAMEFN accepts a sequence exactly when it reads as a frame with the CRC of its own fields, and the response
is that frame's whatever the slack. -/
theorem deframeAcceptsExactlyTheValidFrames : Obligations.DeframeAcceptsExactlyTheValidFrames := by
  intro s
  have hframe (t c : Byte) (data slack : Bytes) (hlen : data.length ≤ 252)
      (hpayload : s.payload = frameBytes t c data slack (frameCrc t c data)) :
      answerInstr .deframe s.payload = packetResponse t c data data := by
    rw [hpayload, answerInstr_deframe_frameBytes slack _ hlen, if_pos rfl]
  refine ⟨_, registerMachineRefinesPureFunctions .deframe s, ⟨fun hok => ?_, ?_⟩, hframe⟩
  · obtain ⟨p, hp, -⟩ := answerPacket_ok hok
    exact exists_frameBytes_of_deframeFn hp
  · rintro ⟨t, c, data, slack, hlen, hpayload⟩
    rw [hframe t c data slack hlen hpayload]
    rfl

end Sys2Proof.Proofs.Encoding

/-! SUPPORT. Family 40_crc.md: the per-bit map of the CRC register, linear and injective (R120, R125), the CRC of a sequence
(R121), and the two operations at the interface, alone and in a chain (R123, R124). -/

namespace Sys2Proof.Proofs.Crc

open Sys2Proof Sys2Proof.Machine Sys2Proof.Claims Sys2Proof.Proofs.Scope Sys2Proof.Proofs.Stateless Sys2Proof.Proofs.Memory
  Sys2Proof.Proofs.Encoding

/-! ### The per-bit map (40_crc.md R120, R125 (b), (c)) -/

/-- The shift leaves bit 15 clear, and 0x8005 has it set: the bit shifted out comes back there. -/
theorem crcShift_getLsbD_last (r : Word16) : (crcShift r).getLsbD 15 = r.getLsbD 0 := by
  have hshift : (r >>> 1).getLsbD 15 = false := by
    rw [BitVec.getLsbD_ushiftRight, BitVec.getLsbD_of_ge r _ (by decide)]
  rw [crcShift, BitVec.getLsbD_xor, hshift, Bool.false_xor]
  cases r.getLsbD 0 <;> rfl

/-- Both the shift and the choice of 0x8005 or 0 by bit 0 distribute over XOR. -/
theorem crcShift_xor : Function.Semiconj₂ crcShift (· ^^^ ·) (· ^^^ ·) := by
  intro x y
  have hmask : (if (x ^^^ y).getLsbD 0 then 0x8005#16 else 0#16) =
      (if x.getLsbD 0 then 0x8005#16 else 0#16) ^^^ (if y.getLsbD 0 then 0x8005#16 else 0#16) := by
    rw [BitVec.getLsbD_xor]
    cases x.getLsbD 0 <;> cases y.getLsbD 0 <;> rfl
  simp only [crcShift, hmask, BitVec.ushiftRight_xor_distrib]
  ac_rfl

/-- A word is its bit 0 and the rest of its bits, shifted. -/
theorem eq_of_ushiftRight_one {w : Nat} {x y : BitVec w} (hbit : x.getLsbD 0 = y.getLsbD 0) (hrest : x >>> 1 = y >>> 1) :
    x = y := by
  refine BitVec.eq_of_getLsbD_eq fun k _ => ?_
  cases k with
  | zero => exact hbit
  | succ k => simpa [BitVec.getLsbD_ushiftRight, Nat.add_comm] using congrArg (·.getLsbD k) hrest

/-- Bit 15 of the result tells which bit was shifted out, so whether 0x8005 was added, and the other bits are then known. -/
theorem crcShift_injective : Function.Injective crcShift := by
  intro x y h
  have hbit : x.getLsbD 0 = y.getLsbD 0 := by
    rw [← crcShift_getLsbD_last x, ← crcShift_getLsbD_last y, h]
  refine eq_of_ushiftRight_one hbit ?_
  rw [crcShift, crcShift, hbit] at h
  exact (BitVec.xor_left_inj _).mp h

theorem extractLsb'_crcShift_last (r : Word16) : (crcShift r).extractLsb' 15 1 = r.setWidth 1 :=
  extractLsb'_eq_of_bits fun k hk => by
    obtain rfl : k = 0 := by omega
    rw [BitVec.getLsbD_setWidth, Nat.add_zero, crcShift_getLsbD_last]
    rfl

/-- Settles O31: the map is injective, and the register's values are finitely many. -/
theorem crcBitMapIsBijective : Obligations.CrcBitMapIsBijective := by
  have hbit : crcBit = crcShift := funext crcBit_eq_crcShift
  refine ⟨hbit ▸ crcShift_injective.bijective_of_finite, fun r => ?_⟩
  rw [crcBit_eq_crcShift, extractLsb'_crcShift_last]

/-! ### One byte (40_crc.md R120, R125 (b)) -/

/-- The register's part and the byte's part of an update add by XOR. -/
theorem crcByte_eq_xor (r : Word16) (b : Byte) : crcByte r b = crcShift^[8] r ^^^ crcShift^[8] (b.setWidth 16) :=
  crcShift_xor.iterate 8 r (b.setWidth 16)

/-- Settles O30: the model's functions are the formula's, whose per-bit map is linear and so is its eighth iterate. -/
theorem crcUpdateIsLinear : Obligations.CrcUpdateIsLinear :=
  ⟨crcBit_eq_crcShift, crcUpdate_eq_crcByte, crc16_eq_crcOf, crcShift_xor.iterate 8,
    fun r b => (crcUpdate_eq_crcByte r b).trans (crcByte_eq_xor r b)⟩

theorem crcByte_injective_register (b : Byte) : Function.Injective (crcByte · b) := by
  intro r r' h
  exact (BitVec.xor_left_inj _).mp (crcShift_injective.iterate 8 h)

theorem setWidth_byte_injective : Function.Injective (BitVec.setWidth 16 : Byte → Word16) := by
  intro x y h
  have h8 := congrArg (BitVec.setWidth 8) h
  rwa [BitVec.setWidth_setWidth_of_le x (by decide), BitVec.setWidth_setWidth_of_le y (by decide), BitVec.setWidth_eq,
    BitVec.setWidth_eq] at h8

theorem crcByte_injective_byte (r : Word16) : Function.Injective (crcByte r) := by
  intro x y h
  exact setWidth_byte_injective ((BitVec.xor_right_inj r).mp (crcShift_injective.iterate 8 h))

/-! ### A sequence (40_crc.md R121, R125 (c)) -/

/-- Registers that differ before a sequence differ after it. -/
theorem foldl_crcByte_injective (bs : Bytes) : Function.Injective (bs.foldl crcByte) := by
  induction bs with
  | nil => exact Function.injective_id
  | cons b rest ih => exact ih.comp (crcByte_injective_register b)

/-- Settles O32: the two bytes take the register they both meet to different values, which the bytes after them keep apart. -/
theorem oneByteChangeChangesTheCrc : Obligations.OneByteChangeChangesTheCrc := by
  intro pre suf x y hne h
  simp only [crc16_eq_crcOf, crcOf, List.foldl_append, List.foldl_cons] at h
  exact hne (crcByte_injective_byte _ (foldl_crcByte_injective suf h))

/-! ### Rules of operations -/

/-- An operation's rule at the interface, from what its `OP` selects and its pure response. -/
theorem operationRule_of_answerInstr {op : BitVec 4} {Out : Word64 → Bytes → Response → Prop} (i : Word64 → Instr)
    (hop : ∀ w, operation op (wA0 w) (wA1 w) (wDir w) (wA16 w) = .ok (i w)) (hout : ∀ w p, Out w p (answerInstr (i w) p)) :
    OperationRule op Out := by
  intro s r hflight hword
  have ⟨hp, hr, _⟩ := hflight
  refine ⟨fun hclear => ⟨answer r, ?_, step_answers hflight⟩, reservedBitIsIllegalOp s r hp hr⟩
  rw [answer_of_decode ((decode_of_op hclear hword).trans (hop r.word))]
  exact hout r.word r.payload

/-- An operation's rule in every state, from its pure response. -/
theorem meaningRule_of_answerInstr {i : Instr} {Out : Bytes → Response → Prop} (hout : ∀ p, Out p (answerInstr i p)) :
    MeaningRule i Out :=
  fun s => ⟨_, hout s.payload, registerMachineRefinesPureFunctions i s⟩

theorem answerInstr_crc16 (p : Bytes) : answerInstr .crc16 p = { y16 := crcOf p } :=
  congrArg Response.ofCrc (crc16_eq_crcOf p)

theorem answerInstr_crcStep (v : Word16) (b : Byte) (p : Bytes) : answerInstr (.crcStep v b) p = { y16 := crcByte v b } :=
  congrArg Response.ofCrc (crcUpdate_eq_crcByte v b)

/-- Settles O27: `OP` 0 selects CRC16 whatever the other fields. -/
theorem crc16ReturnsPayloadCrc : Obligations.Crc16ReturnsPayloadCrc :=
  ⟨operationRule_of_answerInstr (fun _ => .crc16) (fun _ => rfl) fun _ p => answerInstr_crc16 p,
    meaningRule_of_answerInstr answerInstr_crc16⟩

/-- Settles O28: `OP` 1 selects CRC_STEP on `A16` and `A0`. -/
theorem crcStepUpdatesTheSuppliedRegister : Obligations.CrcStepUpdatesTheSuppliedRegister :=
  ⟨operationRule_of_answerInstr (fun w => .crcStep (wA16 w) (wA0 w)) (fun _ => rfl)
      fun w p => answerInstr_crcStep (wA16 w) (wA0 w) p,
    fun v b => meaningRule_of_answerInstr (answerInstr_crcStep v b)⟩

/-- Settles O33: the payload is of known bytes, so its CRC is a closed computation. -/
theorem goldenCrcValue : Obligations.GoldenCrcValue := by
  intro s hs
  have hcrc : crcOf [0x03#8, 0x00#8, 0x00#8] = 0xCC1D#16 := by decide
  have hanswer := registerMachineRefinesPureFunctions .crc16 s
  rw [hs, answerInstr_crc16, hcrc] at hanswer
  exact ⟨_, hanswer, by decide⟩

/-! ### Chains of CRC_STEP requests (40_crc.md R124, R125 (a)) -/

theorem payloadFits_nil (max : Option Nat) : payloadFits max [] = true := by
  cases max with
  | none => rfl
  | some m => exact decide_eq_true (Nat.zero_le m)

/-- A session of the one request that stands for an operation with its payload. -/
theorem serve_encode {s : State} (i : Instr) {p : Bytes} (hidle : s.request = none) (hp : s.resetPending = false)
    (hfits : payloadFits s.payloadMax p = true) :
    ∃ last, serve [{ word := encode i, payload := p }] s = some ([answerInstr i p], last) ∧ last.request = none ∧
      last.resetPending = false := by
  obtain ⟨last, hserve, hlast, hlastReset, -⟩ := sessionAnswersEachRequestAsAlone
    [{ word := encode i, payload := p }] s hidle hp (List.forall_mem_singleton.mpr hfits)
  rw [List.map_singleton, answer_of_decode (encodedInstructionDecodesBack i)] at hserve
  exact ⟨last, hserve, hlast, hlastReset⟩

/-- A chain goes on from the state and the `Y16` of its first request. -/
theorem stepChain_cons {b : Byte} {v : Word16} {s t : State} {rsp : Response} (rest : Bytes)
    (h : serve [{ word := encode (.crcStep v b), payload := [] }] s = some ([rsp], t)) :
    stepChain (b :: rest) v s = stepChain rest rsp.y16 t := by
  simp only [stepChain, h]

theorem stepChain_eq_foldl (bs : Bytes) (v : Word16) (s : State) (hidle : s.request = none)
    (hp : s.resetPending = false) :
    ∃ last, stepChain bs v s = some (bs.foldl crcUpdate v, last) ∧ last.request = none := by
  induction bs generalizing v s with
  | nil => exact ⟨s, rfl, hidle⟩
  | cons b rest ih =>
    obtain ⟨t, hserve, ht, htReset⟩ := serve_encode (.crcStep v b) hidle hp (payloadFits_nil _)
    rw [stepChain_cons rest hserve]
    exact ih (crcUpdate v b) t ht htReset

/-- Settles O29: the chain and CRC16 are the same fold over the bytes, and a fold continues over a concatenation. -/
theorem crcStepChainEqualsCrc16 : Obligations.CrcStepChainEqualsCrc16 := by
  refine ⟨fun bs s hidle hp => ⟨stepChain_eq_foldl bs 0xFFFF#16 s hidle hp, fun hfits => ?_⟩, fun a b => List.foldl_append⟩
  obtain ⟨last, hserve, -⟩ := serve_encode .crc16 hidle hp hfits
  exact ⟨last, hserve⟩

end Sys2Proof.Proofs.Crc

/-! SUPPORT. Family 41_fields.md: the combined byte as the direction beside the busNumber's low 7 bits (R140), its two
interpretations (R141), the two operations at the interface (R142, R143), and that they are inverse (R144). -/

namespace Sys2Proof.Proofs.Fields

open Sys2Proof Sys2Proof.Machine Sys2Proof.Claims Sys2Proof.Proofs.Crc

/-! ### The combined byte, packed (41_fields.md R140) -/

theorem and_0x7F_eq_setWidth (bus : Byte) : bus &&& 0x7F#8 = (bus.setWidth 7).setWidth 8 := by
  refine BitVec.eq_of_toNat_eq ?_
  rw [BitVec.toNat_and, BitVec.toNat_setWidth_of_le (by decide), BitVec.toNat_setWidth]
  exact Nat.and_two_pow_sub_one_eq_mod bus.toNat 7

/-- Bit 7 of busNumber has no place in the combined byte: the two fields stand side by side. -/
theorem pack_eq_append (d : BitVec 1) (bus : Byte) : pack d bus = d ++ bus.setWidth 7 := by
  rw [pack, and_0x7F_eq_setWidth, BitVec.append_def, BitVec.shiftLeftZeroExtend_eq, BitVec.setWidth'_eq]

theorem pack_eq_combinedOf (d : BitVec 1) (bus : Byte) : pack d bus = combinedOf d bus := by
  have hsum : (pack d bus).toNat = 128 * d.toNat + bus.toNat % 128 := by
    rw [pack_eq_append, BitVec.toNat_append, ← Nat.shiftLeft_add_eq_or_of_lt (bus.setWidth 7).isLt, Nat.shiftLeft_eq,
      Nat.mul_comm, BitVec.toNat_setWidth]
  rw [combinedOf, ← hsum, BitVec.ofNat_toNat, BitVec.setWidth_eq]

/-! ### The two interpretations (41_fields.md R141) -/

theorem unpackBus_eq_setWidth (c : Byte) : unpackBus c = c.setWidth 7 := (BitVec.setWidth_eq_extractLsb' (by decide)).symm

theorem unpackDirRef_eq_setWidth (c : Byte) : unpackDirRef c = c.setWidth 1 :=
  (BitVec.setWidth_eq_extractLsb' (by decide)).symm

theorem unpackDir_eq_div (c : Byte) : unpackDir c = BitVec.ofNat 1 (c.toNat / 128) := by
  refine BitVec.eq_of_toNat_eq ?_
  rw [unpackDir, BitVec.extractLsb'_toNat, Nat.shiftRight_eq_div_pow, BitVec.toNat_ofNat]

@[simp] theorem unpackDir_pack (d : BitVec 1) (bus : Byte) : unpackDir (pack d bus) = d := by
  rw [pack_eq_append]
  exact BitVec.extractLsb'_append_eq_left

@[simp] theorem unpackBus_pack (d : BitVec 1) (bus : Byte) : unpackBus (pack d bus) = bus.setWidth 7 := by
  rw [pack_eq_append]
  exact BitVec.extractLsb'_append_eq_right

/-- Bit 0 of the combined byte is busNumber's, whatever the direction. -/
@[simp] theorem unpackDirRef_pack (d : BitVec 1) (bus : Byte) : unpackDirRef (pack d bus) = bus.setWidth 1 := by
  rw [unpackDirRef_eq_setWidth, ← BitVec.setWidth_setWidth_of_le _ (show 1 ≤ 7 by decide), ← unpackBus_eq_setWidth,
    unpackBus_pack, BitVec.setWidth_setWidth_of_le _ (by decide)]

@[simp] theorem pack_unpack (c : Byte) : pack (unpackDir c) ((unpackBus c).setWidth 8) = c := by
  rw [pack_eq_append, BitVec.setWidth_setWidth_of_le _ (by decide), BitVec.setWidth_eq]
  exact BitVec.extractLsb'_append_extractLsb'

/-- Settles O36: the low 7 bits of busNumber, as a number, are it modulo 128; the one byte is computed. -/
theorem packAndUnpackAreInverse : Obligations.PackAndUnpackAreInverse := by
  refine ⟨fun d bus => ⟨unpackDir_pack d bus, ?_⟩, pack_unpack, by decide⟩
  rw [unpackBus_pack, BitVec.toNat_setWidth]

/-! ### PACK and UNPACK (41_fields.md R142, R143) -/

theorem answerInstr_pack (d : BitVec 1) (bus : Byte) (p : Bytes) : answerInstr (.pack d bus) p =
    { yc := combinedOf d bus, bus7 := bus.setWidth 7, diro := d, dirref := bus.setWidth 1 } := by
  simp only [answerInstr, Response.ofCombined, unpackBusRaw, unpackBus_pack, unpackDir_pack, unpackDirRef_pack,
    ← pack_eq_combinedOf]

theorem answerInstr_unpack (c : Byte) (p : Bytes) : answerInstr (.unpack c) p =
    { yc := c, bus7 := c.setWidth 7, diro := BitVec.ofNat 1 (c.toNat / 128), dirref := c.setWidth 1 } := by
  simp only [answerInstr, Response.ofCombined, unpackBusRaw, unpackBus_eq_setWidth, unpackDir_eq_div,
    unpackDirRef_eq_setWidth]

/-- Settles O34: `OP` 2 selects PACK on `DIR` and `A1`. -/
theorem packBuildsTheCombinedByte : Obligations.PackBuildsTheCombinedByte :=
  ⟨operationRule_of_answerInstr (fun w => .pack (wDir w) (wA1 w)) (fun _ => rfl)
      fun w p => answerInstr_pack (wDir w) (wA1 w) p,
    fun d bus => meaningRule_of_answerInstr (answerInstr_pack d bus)⟩

/-- Settles O35: `OP` 3 selects UNPACK on `A0`. -/
theorem unpackSplitsTheCombinedByte : Obligations.UnpackSplitsTheCombinedByte :=
  ⟨operationRule_of_answerInstr (fun w => .unpack (wA0 w)) (fun _ => rfl) fun w p => answerInstr_unpack (wA0 w) p,
    fun c => meaningRule_of_answerInstr (answerInstr_unpack c)⟩

end Sys2Proof.Proofs.Fields

/-! SUPPORT. Family 42_hex.md: a byte as two digits and back (R160 to R164), the tokens of a line (R165), a line of text
and back (R166, R167), and the round trips with the canonical form (R168). -/

namespace Sys2Proof.Proofs.Hex

open Sys2Proof Sys2Proof.Machine Sys2Proof.Claims Sys2Proof.Proofs.Scope Sys2Proof.Proofs.Stateless Sys2Proof.Proofs.Crc

/-! ### Digits (42_hex.md R160, R162) -/

/-- The digits of the sixteen values are the uppercase table, in order. -/
theorem upperDigits_toNat : ∀ v : BitVec 4, upperDigits[v.toNat]? = some (digit v) := by decide

theorem digit_eq_getD (v : BitVec 4) : digit v = upperDigits.getD v.toNat 0#8 := by
  rw [List.getD_eq_getElem?_getD, upperDigits_toNat, Option.getD_some]

theorem isDigit_digit (v : BitVec 4) : IsDigit (digit v) v.toNat := .inl (upperDigits_toNat v)

theorem mem_upperDigits_iff {ch : Byte} : ch ∈ upperDigits ↔ ∃ v : BitVec 4, digit v = ch := by
  constructor
  · revert ch
    decide
  · rintro ⟨v, rfl⟩
    exact List.mem_of_getElem? (upperDigits_toNat v)

/-- `DIGVAL` reads both tables, entry by entry. -/
theorem bind_digVal_of_tables : ∀ k < 16, upperDigits[k]?.bind digVal = some (BitVec.ofNat 4 k) ∧
    lowerDigits[k]?.bind digVal = some (BitVec.ofNat 4 k) := by decide

theorem lt_sixteen_of_isDigit {ch : Byte} {n : Nat} (h : IsDigit ch n) : n < 16 := by
  obtain h | h := h
  · exact (List.getElem?_eq_some_iff.mp h).1
  · exact (List.getElem?_eq_some_iff.mp h).1

theorem digVal_of_isDigit {ch : Byte} {n : Nat} (h : IsDigit ch n) : digVal ch = some (BitVec.ofNat 4 n) := by
  obtain ⟨hupper, hlower⟩ := bind_digVal_of_tables n (lt_sixteen_of_isDigit h)
  obtain h | h := h
  · rwa [h] at hupper
  · rwa [h] at hlower

/-- Every hex digit is a 7-bit code and no white space (30_encoding.md R95, R96). -/
theorem isDigit_char {ch : Byte} {n : Nat} (h : IsDigit ch n) : ch.toNat < 0x80 ∧ isSpace ch = false := by
  have htables : ∀ c ∈ upperDigits ++ lowerDigits, c.toNat < 0x80 ∧ isSpace c = false := by decide
  refine htables ch (List.mem_append.mpr ?_)
  obtain h | h := h
  · exact .inl (List.mem_of_getElem? h)
  · exact .inr (List.mem_of_getElem? h)

/-! ### A byte and its token (42_hex.md R160, R163) -/

theorem toNat_highNibble (b : Byte) : (b.extractLsb' 4 4).toNat = b.toNat / 16 := by
  rw [BitVec.extractLsb'_toNat, Nat.shiftRight_eq_div_pow]
  omega

theorem toNat_lowNibble (b : Byte) : (b.extractLsb' 0 4).toNat = b.toNat % 16 := by
  rw [BitVec.extractLsb'_toNat, Nat.shiftRight_zero]

theorem hexByte_eq_twoDigits (b : Byte) : hexByte b = twoDigits b := by
  rw [hexByte, twoDigits, digit_eq_getD, digit_eq_getD, toNat_highNibble, toNat_lowNibble]

/-- Any two uppercase digits are a byte's. -/
theorem hexByte_append (hi lo : BitVec 4) : hexByte (hi ++ lo) = [digit hi, digit lo] := by
  rw [hexByte, BitVec.extractLsb'_append_eq_left, BitVec.extractLsb'_append_eq_right]

theorem isToken_hexByte (v : Byte) : IsToken (hexByte v) v := by
  refine ⟨_, _, _, _, rfl, isDigit_digit _, isDigit_digit _, ?_⟩
  rw [toNat_highNibble, toNat_lowNibble, Nat.div_add_mod]

/-- `HEXTOK` accepts exactly two digits of either case, with the byte they spell (42_hex.md R163). -/
theorem hexTok_eq_some_iff {t : Bytes} {v : Byte} : hexTok t = some v ↔ IsToken t v := by
  refine ⟨isToken_of_hexTok, ?_⟩
  rintro ⟨h, l, hi, lo, rfl, hhi, hlo, hv⟩
  simp only [hexTok, digVal_of_isDigit hhi, digVal_of_isDigit hlo, Option.some.injEq]
  have hhi16 := lt_sixteen_of_isDigit hhi
  have hlo16 := lt_sixteen_of_isDigit hlo
  refine BitVec.eq_of_toNat_eq ?_
  rw [toNat_nibbles, hv, BitVec.toNat_ofNat, BitVec.toNat_ofNat, Nat.mod_eq_of_lt hhi16, Nat.mod_eq_of_lt hlo16]

theorem hexTok_eq_none_iff {t : Bytes} : hexTok t = none ↔ ∀ v, ¬ IsToken t v := by
  simp only [Option.eq_none_iff_forall_ne_some, ne_eq, hexTok_eq_some_iff]

@[simp] theorem hexTok_hexByte (v : Byte) : hexTok (hexByte v) = some v := hexTok_eq_some_iff.mpr (isToken_hexByte v)

/-! ### Tokens of a line (42_hex.md R165) -/

theorem isSpace_iff {ch : Byte} : isSpace ch = true ↔ ch ∈ whiteSpace := by
  simp [isSpace, whiteSpace, or_assoc]

/-- A token is read to the end of the line; an empty one is none. -/
theorem tokensFrom_nil (cur : Bytes) : tokensFrom cur [] = if cur = [] then [] else [cur] := rfl

/-- A white-space character ends the token being read, and what follows is read afresh. -/
theorem tokensFrom_cons_of_space (cur rest : Bytes) {ch : Byte} (h : isSpace ch = true) :
    tokensFrom cur (ch :: rest) = tokensFrom cur [] ++ tokens rest := by
  simp only [tokensFrom, h, if_true, tokens]
  split <;> rfl

/-- Any other character is added to the token being read. -/
theorem tokensFrom_cons_of_not_space (cur rest : Bytes) {ch : Byte} (h : isSpace ch = false) :
    tokensFrom cur (ch :: rest) = tokensFrom (cur ++ [ch]) rest := by
  simp [tokensFrom, h]

theorem tokensFrom_append_space (cur a b : Bytes) {ch : Byte} (h : isSpace ch = true) :
    tokensFrom cur (a ++ ch :: b) = tokensFrom cur a ++ tokens b := by
  induction a generalizing cur with
  | nil => exact tokensFrom_cons_of_space cur b h
  | cons c rest ih =>
    rw [List.cons_append]
    cases hc : isSpace c with
    | false => rw [tokensFrom_cons_of_not_space _ _ hc, tokensFrom_cons_of_not_space _ _ hc, ih]
    | true =>
      rw [tokensFrom_cons_of_space _ _ hc, tokensFrom_cons_of_space _ _ hc, tokens, ih, List.append_assoc]
      rfl

theorem tokensFrom_of_no_space (cur : Bytes) {t : Bytes} (h : ∀ ch ∈ t, isSpace ch = false) :
    tokensFrom cur t = tokensFrom (cur ++ t) [] := by
  induction t generalizing cur with
  | nil => rw [List.append_nil]
  | cons c rest ih =>
    obtain ⟨hc, hrest⟩ := List.forall_mem_cons.mp h
    rw [tokensFrom_cons_of_not_space _ _ hc, ih _ hrest, List.append_assoc, List.singleton_append]

theorem tokens_append_space (a b : Bytes) {ch : Byte} (h : isSpace ch = true) :
    tokens (a ++ ch :: b) = tokens a ++ tokens b := tokensFrom_append_space [] a b h

theorem tokens_of_no_space {t : Bytes} (hne : t ≠ []) (h : ∀ ch ∈ t, isSpace ch = false) : tokens t = [t] := by
  rw [tokens, tokensFrom_of_no_space [] h, List.nil_append, tokensFrom_nil, if_neg hne]

/-- Settles O41: the loop ends its token at a white-space character and adds any other one to it. -/
theorem tokensAreTheMaximalRuns : Obligations.TokensAreTheMaximalRuns :=
  ⟨rfl, fun a b _ hch => tokens_append_space a b (isSpace_iff.mpr hch), fun _ hne ht =>
    tokens_of_no_space hne fun ch hch => Bool.eq_false_iff.mpr (mt isSpace_iff.mp (ht ch hch))⟩

/-- The loop drops the white space and nothing else. -/
theorem flatten_tokensFrom (cur s : Bytes) :
    (tokensFrom cur s).flatten = cur ++ s.filter (fun ch => !isSpace ch) := by
  have hnil (c : Bytes) : (tokensFrom c []).flatten = c := by
    rw [tokensFrom_nil]
    split <;> simp [*]
  induction s generalizing cur with
  | nil => rw [hnil, List.filter_nil, List.append_nil]
  | cons c rest ih =>
    cases hc : isSpace c with
    | false => simp [tokensFrom_cons_of_not_space, ih, hc]
    | true => simp [tokensFrom_cons_of_space, tokens, hnil, ih, hc]

theorem exists_token_of_mem {s : Bytes} {ch : Byte} (hmem : ch ∈ s) (h : isSpace ch = false) :
    ∃ t ∈ tokens s, ch ∈ t := by
  rw [← List.mem_flatten, tokens, flatten_tokensFrom]
  simp [hmem, h]

/-! ### A line's bytes (42_hex.md R167) -/

/-- Every token's byte in order, exactly when every token is one. -/
theorem hexToks_eq_some_iff {ts : List Bytes} {b : Bytes} : hexToks ts = some b ↔ List.Forall₂ IsToken ts b := by
  refine ⟨forall₂_isToken_of_hexToks, fun h => ?_⟩
  induction h with
  | nil => rfl
  | cons ht _ ih => simp only [hexToks, hexTok_eq_some_iff.mpr ht, ih]

theorem hexToks_eq_none_iff {ts : List Bytes} : hexToks ts = none ↔ ∃ t ∈ ts, ∀ v, ¬ IsToken t v := by
  induction ts with
  | nil => simp [hexToks]
  | cons t rest ih =>
    rw [List.exists_mem_cons_iff, ← ih, ← hexTok_eq_none_iff, hexToks]
    cases hexTok t with
    | none => simp
    | some v => cases hexToks rest <;> simp

/-! ### A line of text (42_hex.md R166) -/

theorem hexLine_singleton (b : Byte) : hexLine [b] = hexByte b := List.append_nil _

theorem hexLine_cons {b : Byte} {rest : Bytes} (h : rest ≠ []) :
    hexLine (b :: rest) = hexByte b ++ 0x20#8 :: hexLine rest := by
  cases rest with
  | nil => exact absurd rfl h
  | cons c rest => rfl

/-- The model's line, which puts a space before every byte but the first, is the join. -/
theorem hexLine_eq_lineOf (b : Bytes) : hexLine b = lineOf b := by
  induction b with
  | nil => rfl
  | cons c rest ih =>
    cases rest with
    | nil => rw [hexLine_singleton, hexByte_eq_twoDigits]; simp [lineOf]
    | cons d rest =>
      rw [hexLine_cons (List.cons_ne_nil d rest), ih, hexByte_eq_twoDigits]
      simp [lineOf, List.intercalate_cons_cons]

theorem tokens_hexByte (b : Byte) : tokens (hexByte b) = [hexByte b] := by
  refine tokens_of_no_space (List.cons_ne_nil _ _) fun ch hch => ?_
  obtain rfl | rfl : ch = digit (b.extractLsb' 4 4) ∨ ch = digit (b.extractLsb' 0 4) := by simpa [hexByte] using hch
  · exact (isDigit_char (isDigit_digit _)).2
  · exact (isDigit_char (isDigit_digit _)).2

theorem tokens_hexLine (b : Bytes) : tokens (hexLine b) = b.map hexByte := by
  induction b with
  | nil => rfl
  | cons c rest ih =>
    by_cases hrest : rest = []
    · subst hrest
      exact (congrArg tokens (hexLine_singleton c)).trans (tokens_hexByte c)
    · rw [hexLine_cons hrest, tokens_append_space _ _ (by decide), tokens_hexByte, ih]
      rfl

/-- A line encoded is a line that decodes, to the same bytes (42_hex.md R168 (a)). -/
theorem hexBytes_hexLine (b : Bytes) : hexBytes (hexLine b) = some b := by
  rw [hexBytes, tokens_hexLine, hexToks_eq_some_iff, List.forall₂_map_left_iff]
  exact List.forall₂_same.mpr fun v _ => isToken_hexByte v

/-! ### Canonical lines (42_hex.md R168 (c)) -/

/-- Every character is the one its place modulo 3 asks for: a digit, a digit, a space. -/
def PlacedByThrees (s : Bytes) : Prop :=
  ∀ k ch, s[k]? = some ch → if k % 3 = 2 then ch = 0x20#8 else ch ∈ upperDigits

theorem canonical_iff_placedByThrees {s : Bytes} : Canonical s ↔ s = [] ∨ (s.length % 3 = 2 ∧ PlacedByThrees s) := Iff.rfl

theorem placedByThrees_pair {h l : Byte} : PlacedByThrees [h, l] ↔ h ∈ upperDigits ∧ l ∈ upperDigits := by
  constructor
  · intro hs
    exact ⟨hs 0 h rfl, hs 1 l rfl⟩
  · rintro ⟨hh, hl⟩ (_ | _ | k) ch hch
    · cases hch; exact hh
    · cases hch; exact hl
    · cases hch

theorem placedByThrees_cons {h l sp : Byte} {s : Bytes} : PlacedByThrees (h :: l :: sp :: s) ↔
    h ∈ upperDigits ∧ l ∈ upperDigits ∧ sp = 0x20#8 ∧ PlacedByThrees s := by
  constructor
  · intro hs
    refine ⟨hs 0 h rfl, hs 1 l rfl, hs 2 sp rfl, fun k ch hch => ?_⟩
    exact Nat.add_mod_right k 3 ▸ hs (k + 3) ch hch
  · rintro ⟨hh, hl, hsp, hs⟩ (_ | _ | _ | k) ch hch
    · cases hch; exact hh
    · cases hch; exact hl
    · cases hch; exact hsp
    · exact (Nat.add_mod_right k 3).symm ▸ hs k ch hch

theorem placedByThrees_hexLine (b : Bytes) : PlacedByThrees (hexLine b) := by
  induction b with
  | nil => exact nofun
  | cons c rest ih =>
    have hhigh : digit (c.extractLsb' 4 4) ∈ upperDigits := mem_upperDigits_iff.mpr ⟨_, rfl⟩
    have hlow : digit (c.extractLsb' 0 4) ∈ upperDigits := mem_upperDigits_iff.mpr ⟨_, rfl⟩
    by_cases hrest : rest = []
    · subst hrest
      rw [hexLine_singleton]
      exact placedByThrees_pair.mpr ⟨hhigh, hlow⟩
    · rw [hexLine_cons hrest]
      exact placedByThrees_cons.mpr ⟨hhigh, hlow, rfl, ih⟩

theorem canonical_hexLine (b : Bytes) : Canonical (hexLine b) := by
  rw [canonical_iff_placedByThrees]
  cases b with
  | nil => exact .inl rfl
  | cons c rest =>
    refine .inr ⟨?_, placedByThrees_hexLine _⟩
    rw [length_hexLine, List.length_cons]
    omega

/-- Two uppercase digits are a byte's text. -/
theorem exists_hexByte_of_mem_upperDigits {h l : Byte} (hh : h ∈ upperDigits) (hl : l ∈ upperDigits) :
    ∃ v, hexByte v = [h, l] := by
  obtain ⟨hi, rfl⟩ := mem_upperDigits_iff.mp hh
  obtain ⟨lo, rfl⟩ := mem_upperDigits_iff.mp hl
  exact ⟨hi ++ lo, hexByte_append hi lo⟩

/-- Read three characters at a time, a well-placed text that ends in a pair is a line of bytes. -/
theorem exists_hexLine_of_placedByThrees (s : Bytes) (hlen : s.length % 3 = 2) (hs : PlacedByThrees s) :
    ∃ b, hexLine b = s := by
  match s with
  | [] | [_] => cases hlen
  | [h, l] =>
    obtain ⟨hh, hl⟩ := placedByThrees_pair.mp hs
    obtain ⟨v, hv⟩ := exists_hexByte_of_mem_upperDigits hh hl
    exact ⟨[v], (hexLine_singleton v).trans hv⟩
  | h :: l :: sp :: rest =>
    obtain ⟨hh, hl, rfl, hrest⟩ := placedByThrees_cons.mp hs
    obtain ⟨v, hv⟩ := exists_hexByte_of_mem_upperDigits hh hl
    have hlen' : rest.length % 3 = 2 := (Nat.add_mod_right rest.length 3).symm.trans hlen
    obtain ⟨b, rfl⟩ := exists_hexLine_of_placedByThrees rest hlen' hrest
    have hb : b ≠ [] := by
      rintro rfl
      cases hlen'
    exact ⟨v :: b, by rw [hexLine_cons hb, hv]; rfl⟩

/-- The canonical lines are what the encoder writes. -/
theorem canonical_iff_exists_hexLine {s : Bytes} : Canonical s ↔ ∃ b, hexLine b = s := by
  constructor
  · rw [canonical_iff_placedByThrees]
    rintro (rfl | ⟨hlen, hs⟩)
    · exact ⟨[], rfl⟩
    · exact exists_hexLine_of_placedByThrees s hlen hs
  · rintro ⟨b, rfl⟩
    exact canonical_hexLine b

/-- A line that decodes is its bytes' text exactly in canonical form: a canonical line is some bytes' text, and decodes to
those. -/
theorem hexLine_eq_iff_canonical {s b : Bytes} (h : hexBytes s = some b) : hexLine b = s ↔ Canonical s := by
  rw [canonical_iff_exists_hexLine]
  refine ⟨fun hb => ⟨b, hb⟩, ?_⟩
  rintro ⟨b', rfl⟩
  rw [hexBytes_hexLine] at h
  rw [Option.some.inj h]

/-- A character past the 7-bit codes is no white space, so it stands in a token, and no digit, so that token is malformed
(42_hex.md R168 (d)). -/
theorem hexBytes_of_high_char {s : Bytes} {ch : Byte} (hmem : ch ∈ s) (hhigh : 0x80 ≤ ch.toNat) : hexBytes s = none := by
  have hspace : isSpace ch = false := by
    have hlow : ∀ c ∈ whiteSpace, c.toNat < 0x80 := by decide
    exact Bool.eq_false_iff.mpr fun h => Nat.not_lt.mpr hhigh (hlow ch (isSpace_iff.mp h))
  obtain ⟨t, ht, hch⟩ := exists_token_of_mem hmem hspace
  refine hexToks_eq_none_iff.mpr ⟨t, ht, ?_⟩
  rintro v ⟨h, l, hi, lo, rfl, hhi, hlo, -⟩
  obtain rfl | rfl : ch = h ∨ ch = l := by simpa using hch
  · exact Nat.not_lt.mpr hhigh (isDigit_char hhi).1
  · exact Nat.not_lt.mpr hhigh (isDigit_char hlo).1

/-- Settles O42, its four laws in turn. -/
theorem hexTextRoundTrips : Obligations.HexTextRoundTrips :=
  ⟨hexBytes_hexLine, hexTok_hexByte, fun _ _ => hexLine_eq_iff_canonical, fun _ _ => hexBytes_of_high_char⟩

/-! ### The four operations (42_hex.md R161, R164, R166, R167) -/

theorem answerInstr_hexencByte (b : Byte) (p : Bytes) : answerInstr (.hexencByte b) p =
    { y0 := upperDigits.getD (b.toNat / 16) 0#8, y1 := upperDigits.getD (b.toNat % 16) 0#8 } := by
  simp only [answerInstr, digit_eq_getD, toNat_highNibble, toNat_lowNibble]

theorem answerInstr_hexdecToken (p : Bytes) :
    (∃ v, IsToken p v ∧ answerInstr .hexdecToken p = { y0 := v }) ∨
      ((∀ v, ¬ IsToken p v) ∧ answerInstr .hexdecToken p = errorOf .malformedToken) := by
  simp only [answerInstr]
  cases h : hexTok p with
  | none => exact .inr ⟨hexTok_eq_none_iff.mp h, rfl⟩
  | some v => exact .inl ⟨v, hexTok_eq_some_iff.mp h, rfl⟩

theorem answerInstr_hexencLine (p : Bytes) : answerInstr .hexencLine p = { payloadOut := lineOf p } := by
  rw [answerInstr, hexLine_eq_lineOf]

theorem answerInstr_hexdecLine (p : Bytes) :
    (∃ b, List.Forall₂ IsToken (tokens p) b ∧ answerInstr .hexdecLine p = { payloadOut := b }) ∨
      ((∃ t ∈ tokens p, ∀ v, ¬ IsToken t v) ∧ answerInstr .hexdecLine p = errorOf .malformedToken) := by
  simp only [answerInstr]
  cases h : hexBytes p with
  | none => exact .inr ⟨hexToks_eq_none_iff.mp h, rfl⟩
  | some b => exact .inl ⟨b, hexToks_eq_some_iff.mp h, rfl⟩

/-- Settles O37: `OP` 4 selects HEXENC_BYTE on `A0`. -/
theorem hexencByteGivesTwoDigits : Obligations.HexencByteGivesTwoDigits :=
  ⟨operationRule_of_answerInstr (fun w => .hexencByte (wA0 w)) (fun _ => rfl) fun w p => answerInstr_hexencByte (wA0 w) p,
    fun b => meaningRule_of_answerInstr (answerInstr_hexencByte b)⟩

/-- Settles O38: `OP` 5 selects HEXDEC_TOKEN whatever the other fields. -/
theorem hexdecTokenDecodesOneToken : Obligations.HexdecTokenDecodesOneToken :=
  ⟨operationRule_of_answerInstr (fun _ => .hexdecToken) (fun _ => rfl) fun _ p => answerInstr_hexdecToken p,
    meaningRule_of_answerInstr answerInstr_hexdecToken⟩

/-- Settles O39: `OP` 6 selects HEXENC_LINE whatever the other fields, and the text's length holds of the empty line too. -/
theorem hexencLineSerializesBytes : Obligations.HexencLineSerializesBytes :=
  ⟨operationRule_of_answerInstr (fun _ => .hexencLine) (fun _ => rfl) fun _ p => answerInstr_hexencLine p,
    meaningRule_of_answerInstr answerInstr_hexencLine, fun b _ => length_hexLine b⟩

/-- Settles O40: `OP` 7 selects HEXDEC_LINE whatever the other fields. -/
theorem hexdecLineParsesEveryToken : Obligations.HexdecLineParsesEveryToken :=
  ⟨operationRule_of_answerInstr (fun _ => .hexdecLine) (fun _ => rfl) fun _ p => answerInstr_hexdecLine p,
    meaningRule_of_answerInstr answerInstr_hexdecLine⟩

end Sys2Proof.Proofs.Hex

/-! SUPPORT. Family 43_framer.md: what FRAME and ENCODE build (R190 to R192, R195), DEFRAME's checks by the places of a frame
and DECODE's on a line (R193, R194, R196), the round trip (R197), what a flipped bit gives (R199) and two frames in one
payload (R196), and the source's boundary cases (R200). -/

namespace Sys2Proof.Proofs.Framer

open Sys2Proof Sys2Proof.Machine Sys2Proof.Claims Sys2Proof.Proofs.Scope Sys2Proof.Proofs.Stateless Sys2Proof.Proofs.Encoding
  Sys2Proof.Proofs.Crc Sys2Proof.Proofs.Fields Sys2Proof.Proofs.Hex

/-- An operation answers what its pure response is. -/
theorem answers_of_answerInstr {i : Instr} {s : State} {rsp : Response} (h : answerInstr i s.payload = rsp) :
    Answers (exec i s) s rsp := h ▸ registerMachineRefinesPureFunctions i s

/-! ### Building a frame (43_framer.md R190 to R192, R195) -/

/-- The frame of 30_encoding.md R89 with no slack and the CRC of its own fields, as FRAME builds it. -/
def builtFrame (t c : Byte) (data : Bytes) : Bytes := frameBytes t c data [] (frameCrc t c data)

theorem builtFrame_eq_layout (t c : Byte) (data : Bytes) :
    builtFrame t c data = layout 0xAA#8 (BitVec.ofNat 8 (3 + data.length)) t c data
      ((frameCrc t c data >>> 8).setWidth 8) ((frameCrc t c data).setWidth 8) 0xFF#8 := by
  rw [builtFrame, frameBytes_eq_layout, List.append_nil]

theorem length_builtFrame (t c : Byte) (data : Bytes) : (builtFrame t c data).length = data.length + 7 := by
  rw [builtFrame_eq_layout, length_layout]

/-- `WIRE` lays the Packet out as the frame it stands for. -/
theorem wire_framePacket (t c : Byte) (data : Bytes) : wire (framePacket t c data) = builtFrame t c data := by
  simp only [builtFrame_eq_layout, layout, BitVec.setWidth_eq_extractLsb' (show 8 ≤ 16 by decide)]
  rfl

theorem frameFn_of_fits (t : Byte) (d : BitVec 1) (bus : Byte) {data : Bytes} (h : data.length ≤ 252) :
    frameFn t d bus data = .ok (framePacket t (combinedOf d bus) data) := by
  have hfits : ¬ Config.lenBias + data.length > Config.lenMax := by
    simp only [Config.lenBias, Config.lenMax]
    omega
  simp only [frameFn, if_neg hfits, pack_eq_combinedOf, crc16_eq_crcOf]
  rfl

theorem frameFn_of_overflow (t : Byte) (d : BitVec 1) (bus : Byte) {data : Bytes} (h : ¬ data.length ≤ 252) :
    frameFn t d bus data = .error .lengthOverflow := by
  refine if_pos ?_
  simp only [Config.lenBias, Config.lenMax]
  omega

theorem answerInstr_frame_of_fits (t : Byte) (d : BitVec 1) (bus : Byte) {data : Bytes} (h : data.length ≤ 252) :
    answerInstr (.frame t d bus) data =
      packetResponse t (combinedOf d bus) data (builtFrame t (combinedOf d bus) data) := by
  simp only [answerInstr, frameFn_of_fits t d bus h, answerPacket, wire_framePacket, ofPacket_framePacket]

theorem answerInstr_frame_of_overflow (t : Byte) (d : BitVec 1) (bus : Byte) {data : Bytes} (h : ¬ data.length ≤ 252) :
    answerInstr (.frame t d bus) data = errorOf .lengthOverflow := by
  simp only [answerInstr, frameFn_of_overflow t d bus h]
  rfl

/-- ENCODE's Packet is FRAME's, and its output the text of FRAME's. -/
theorem answerInstr_encode_of_fits (t : Byte) (d : BitVec 1) (bus : Byte) {data : Bytes} (h : data.length ≤ 252) :
    answerInstr (.encode t d bus) data =
      packetResponse t (combinedOf d bus) data (hexLine (builtFrame t (combinedOf d bus) data)) := by
  rw [answerInstr_encode, answerInstr_frame_of_fits t d bus h]
  rfl

theorem answerInstr_encode_of_overflow (t : Byte) (d : BitVec 1) (bus : Byte) {data : Bytes} (h : ¬ data.length ≤ 252) :
    answerInstr (.encode t d bus) data = errorOf .lengthOverflow := by
  rw [answerInstr_encode, answerInstr_frame_of_overflow t d bus h]
  rfl

theorem buildResult_frame (t : Byte) (d : BitVec 1) (bus : Byte) (p : Bytes) :
    BuildResult (fun b => b) t d bus p (answerInstr (.frame t d bus) p) := by
  unfold BuildResult
  split
  case isTrue h => exact answerInstr_frame_of_fits t d bus h
  case isFalse h => exact answerInstr_frame_of_overflow t d bus h

theorem buildResult_encode (t : Byte) (d : BitVec 1) (bus : Byte) (p : Bytes) :
    BuildResult lineOf t d bus p (answerInstr (.encode t d bus) p) := by
  unfold BuildResult
  split
  case isTrue h =>
    rw [← hexLine_eq_lineOf]
    exact answerInstr_encode_of_fits t d bus h
  case isFalse h => exact answerInstr_encode_of_overflow t d bus h

/-- Settles O43: `OP` 8 selects FRAME on `A0`, `DIR` and `A1`. -/
theorem frameBuildsTheWireFrame : Obligations.FrameBuildsTheWireFrame :=
  ⟨operationRule_of_answerInstr (fun w => .frame (wA0 w) (wDir w) (wA1 w)) (fun _ => rfl)
      fun w p => buildResult_frame (wA0 w) (wDir w) (wA1 w) p,
    fun t d bus => meaningRule_of_answerInstr (buildResult_frame t d bus)⟩

/-- Settles O44: `OP` 0xA selects ENCODE on `A0`, `DIR` and `A1`, and its text is that of the data's length and seven bytes. -/
theorem encodeRendersTheFrameAsText : Obligations.EncodeRendersTheFrameAsText := by
  refine ⟨operationRule_of_answerInstr (fun w => .encode (wA0 w) (wDir w) (wA1 w)) (fun _ => rfl)
      fun w p => buildResult_encode (wA0 w) (wDir w) (wA1 w) p,
    fun t d bus => meaningRule_of_answerInstr (buildResult_encode t d bus), fun t d bus s hlen => ?_⟩
  refine ⟨_, answers_of_answerInstr (answerInstr_encode_of_fits t d bus hlen), ?_⟩
  rw [packetResponse, length_hexLine, length_builtFrame]

/-! ### Checking a frame, place by place (43_framer.md R193, R194) -/

section Layout

variable (start l t c hi lo stop : Byte) (mid : Bytes)

theorem layout_eq_append :
    layout start l t c mid hi lo stop = (start :: l :: t :: c :: mid) ++ [hi, lo, stop] := rfl

theorem getLast?_layout : (layout start l t c mid hi lo stop).getLast? = some stop :=
  List.getLast?_eq_some_iff.mpr ⟨start :: l :: t :: c :: (mid ++ [hi, lo]), by simp [layout]⟩

/-- The last three bytes, counted from the end. -/
theorem getElem?_layout_end {k : Nat} (hk : k ≤ 3) :
    (layout start l t c mid hi lo stop)[(layout start l t c mid hi lo stop).length - k]? = [hi, lo, stop][3 - k]? := by
  have hindex : (layout start l t c mid hi lo stop).length - k = (start :: l :: t :: c :: mid).length + (3 - k) := by
    rw [length_layout]
    simp only [List.length_cons]
    omega
  rw [hindex, layout_eq_append, List.getElem?_append_right (Nat.le_add_right _ _), Nat.add_sub_cancel_left]

end Layout

/-- The data that `L` claims stands before the CRC field, from index 4. -/
theorem data_of_layout (start t c hi lo stop : Byte) {l : Byte} {mid : Bytes} (hhigh : l.toNat ≤ mid.length + 3) :
    ((layout start l t c mid hi lo stop).drop 4).take (l.toNat - 3) = mid.take (l.toNat - 3) :=
  List.take_append_of_le_length (Nat.sub_le_iff_le_add.mpr hhigh)

/-- Bytes 1 to `L`, which the CRC covers, are `L`, `T`, `C` and the data. -/
theorem covered_of_layout (start t c hi lo stop : Byte) {l : Byte} {mid : Bytes} (hlow : 3 ≤ l.toNat)
    (hhigh : l.toNat ≤ mid.length + 3) :
    ((layout start l t c mid hi lo stop).drop 1).take l.toNat = l :: t :: c :: mid.take (l.toNat - 3) := by
  obtain ⟨n, hn⟩ := Nat.exists_eq_add_of_le' hlow
  rw [← data_of_layout start t c hi lo stop hhigh, hn]
  rfl

theorem answerInstr_deframe_of_short {b : Bytes} (h : b.length < 7) : answerInstr .deframe b = errorOf .frameTooShort := by
  simp only [answerInstr, deframeFn, parseFrame_of_short h]
  rfl

theorem answerInstr_deframe_of_badSentinel (l t c hi lo : Byte) (mid : Bytes) {start stop : Byte}
    (h : start ≠ 0xAA#8 ∨ stop ≠ 0xFF#8) :
    answerInstr .deframe (layout start l t c mid hi lo stop) = errorOf .badSentinel := by
  simp only [answerInstr, deframeFn, parseFrame_layout, if_pos h]
  rfl

theorem answerInstr_deframe_of_lengthMismatch (t c hi lo : Byte) {l : Byte} {mid : Bytes}
    (h : l.toNat < 3 ∨ mid.length + 3 < l.toNat) :
    answerInstr .deframe (layout 0xAA#8 l t c mid hi lo 0xFF#8) = errorOf .lengthMismatch := by
  simp only [answerInstr, deframeFn, parseFrame_layout, if_pos h]
  rfl

/-- With the sentinels right and `L` in range, a layout reads as a frame of the data `L` claims, the rest being slack, and
the CRC decides (30_encoding.md R93). -/
theorem answerInstr_deframe_of_lengthInRange (t c hi lo : Byte) {l : Byte} {mid : Bytes} (hlow : 3 ≤ l.toNat)
    (hhigh : l.toNat ≤ mid.length + 3) :
    answerInstr .deframe (layout 0xAA#8 l t c mid hi lo 0xFF#8) =
      if crcOf (((layout 0xAA#8 l t c mid hi lo 0xFF#8).drop 1).take l.toNat) = hi ++ lo then
        packetResponse t c (mid.take (l.toNat - 3)) (mid.take (l.toNat - 3))
      else errorOf .integrityError := by
  have hlen : (mid.take (l.toNat - 3)).length = l.toNat - 3 := List.length_take_of_le (Nat.sub_le_iff_le_add.mpr hhigh)
  have hl : BitVec.ofNat 8 (3 + (mid.take (l.toNat - 3)).length) = l := by
    rw [hlen, Nat.add_sub_cancel' hlow, BitVec.ofNat_toNat, BitVec.setWidth_eq]
  have hframe : layout 0xAA#8 l t c mid hi lo 0xFF#8 =
      frameBytes t c (mid.take (l.toNat - 3)) (mid.drop (l.toNat - 3)) (hi ++ lo) := by
    rw [frameBytes_eq_layout, hl, List.take_append_drop, crc_high_byte, crc_low_byte]
  have hcrc : crcOf (l :: t :: c :: mid.take (l.toNat - 3)) = frameCrc t c (mid.take (l.toNat - 3)) := by
    rw [frameCrc, hl]
  rw [covered_of_layout _ t c hi lo _ hlow hhigh, hcrc, hframe]
  exact answerInstr_deframe_frameBytes _ _ (by omega)

/-- The received CRC, big-endian (20_memory.md R63). -/
theorem toNat_crc_bytes (hi lo : Byte) : (hi ++ lo : Word16).toNat = hi.toNat * 256 + lo.toNat := by
  rw [BitVec.toNat_append, ← Nat.shiftLeft_add_eq_or_of_lt lo.isLt, Nat.shiftLeft_eq]

/-- DEFRAME's checks in their order: each branch is one place of the frame found wrong, or the frame accepted. -/
theorem checkResult_deframe (b : Bytes) : CheckResult b (answerInstr .deframe b) := by
  unfold CheckResult
  by_cases hshort : b.length < 7
  · rw [if_pos hshort]
    exact answerInstr_deframe_of_short hshort
  obtain ⟨start, l, t, c, mid, hi, lo, stop, rfl⟩ := exists_layout_of_length (Nat.not_lt.mp hshort)
  have hhead : (layout start l t c mid hi lo stop).head? = some start := rfl
  rw [if_neg hshort, hhead, getLast?_layout]
  simp only [ne_eq, Option.some.injEq]
  by_cases hsentinels : ¬ start = 0xAA#8 ∨ ¬ stop = 0xFF#8
  · rw [if_pos hsentinels]
    exact answerInstr_deframe_of_badSentinel l t c hi lo mid hsentinels
  rw [if_neg hsentinels]
  obtain ⟨rfl, rfl⟩ : start = 0xAA#8 ∧ stop = 0xFF#8 := by simpa using hsentinels
  intro L T C ch cl hL hT hC hch hcl
  obtain rfl : l = L := Option.some.inj hL
  obtain rfl : t = T := Option.some.inj hT
  obtain rfl : c = C := Option.some.inj hC
  rw [getElem?_layout_end _ _ _ _ _ _ _ _ (by decide)] at hch hcl
  obtain rfl : hi = ch := Option.some.inj hch
  obtain rfl : lo = cl := Option.some.inj hcl
  by_cases hlength : l.toNat < 3 ∨ mid.length + 3 < l.toNat
  · rw [if_pos (by rw [length_layout]; omega)]
    exact answerInstr_deframe_of_lengthMismatch t c hi lo hlength
  obtain ⟨hlow, hhigh⟩ : 3 ≤ l.toNat ∧ l.toNat ≤ mid.length + 3 := by omega
  rw [if_neg (by rw [length_layout]; omega), answerInstr_deframe_of_lengthInRange t c hi lo hlow hhigh,
    data_of_layout _ t c hi lo _ hhigh, ← toNat_crc_bytes]
  simp only [BitVec.toNat_inj]
  by_cases hcrc : crcOf (((layout 0xAA#8 l t c mid hi lo 0xFF#8).drop 1).take l.toNat) = hi ++ lo
  · rw [if_pos hcrc, if_neg (not_not.mpr hcrc)]
  · rw [if_neg hcrc, if_pos hcrc]

/-- Settles O45: `OP` 9 selects DEFRAME whatever the other fields. -/
theorem deframeChecksInOrder : Obligations.DeframeChecksInOrder :=
  ⟨operationRule_of_answerInstr (fun _ => .deframe) (fun _ => rfl) fun _ p => checkResult_deframe p,
    meaningRule_of_answerInstr checkResult_deframe⟩

/-! ### Checking a line (43_framer.md R196, 60_exceptions.md R243) -/

theorem answerInstr_decode_of_malformed {p : Bytes} (h : hexBytes p = none) :
    answerInstr .decode p = errorOf .malformedToken := by
  simp only [answerInstr, h]
  rfl

theorem answerInstr_decode_of_bytes {p b : Bytes} (h : hexBytes p = some b) :
    answerInstr .decode p = answerInstr .deframe b := by
  simp only [answerInstr, h]

theorem answerInstr_decode_hexLine (b : Bytes) : answerInstr .decode (hexLine b) = answerInstr .deframe b :=
  answerInstr_decode_of_bytes (hexBytes_hexLine b)

theorem lineCheckResult_decode (p : Bytes) : LineCheckResult p (answerInstr .decode p) := by
  cases h : hexBytes p with
  | none => exact .inr ⟨hexToks_eq_none_iff.mp h, answerInstr_decode_of_malformed h⟩
  | some b => exact .inl ⟨b, hexToks_eq_some_iff.mp h, answerInstr_decode_of_bytes h ▸ checkResult_deframe b⟩

/-- Settles O46: `OP` 0xB selects DECODE whatever the other fields. -/
theorem decodeChecksTokensThenFrame : Obligations.DecodeChecksTokensThenFrame :=
  ⟨operationRule_of_answerInstr (fun _ => .decode) (fun _ => rfl) fun _ p => lineCheckResult_decode p,
    meaningRule_of_answerInstr lineCheckResult_decode⟩

/-! ### The round trip (43_framer.md R197) -/

theorem answerInstr_deframe_builtFrame (t c : Byte) {data : Bytes} (h : data.length ≤ 252) :
    answerInstr .deframe (builtFrame t c data) = packetResponse t c data data :=
  (answerInstr_deframe_frameBytes [] _ h).trans (if_pos rfl)

theorem packetResponse_diro (t : Byte) (d : BitVec 1) (bus : Byte) (data out : Bytes) :
    (packetResponse t (combinedOf d bus) data out).diro = d := by
  rw [packetResponse, ← pack_eq_combinedOf, BitVec.setWidth_ushiftRight_eq_extractLsb]
  exact unpackDir_pack d bus

theorem packetResponse_bus7 (t : Byte) (d : BitVec 1) (bus : Byte) (data out : Bytes) :
    (packetResponse t (combinedOf d bus) data out).bus7.toNat = bus.toNat % 128 := by
  rw [packetResponse, ← pack_eq_combinedOf, ← unpackBus_eq_setWidth, unpackBus_pack, BitVec.toNat_setWidth]

/-- Settles O49: DEFRAME returns the Packet a built frame stands for, and DECODE reads that frame from its text. -/
theorem encodeThenDecodeRoundTrips : Obligations.EncodeThenDecodeRoundTrips := by
  intro t d bus s hlen
  have hdeframe := answerInstr_deframe_builtFrame t (combinedOf d bus) hlen
  have hyc : combinedOf d bus = pack d bus := (pack_eq_combinedOf d bus).symm
  constructor
  · refine ⟨_, answers_of_answerInstr (answerInstr_encode_of_fits t d bus hlen), fun s' hs' => ⟨_,
      answers_of_answerInstr ((congrArg _ hs').trans ((answerInstr_decode_hexLine _).trans hdeframe)), ?_⟩⟩
    exact ⟨rfl, rfl, rfl, rfl, rfl, hyc, hyc, packetResponse_diro t d bus _ _, packetResponse_bus7 t d bus _ _⟩
  · refine ⟨_, answers_of_answerInstr (answerInstr_frame_of_fits t d bus hlen), fun s' hs' => ⟨_,
      answers_of_answerInstr ((congrArg _ hs').trans hdeframe), ?_⟩⟩
    exact ⟨rfl, rfl, rfl, rfl, rfl, hyc, hyc, packetResponse_diro t d bus _ _, packetResponse_bus7 t d bus _ _⟩

/-! ### One flipped bit (43_framer.md R199) -/

theorem flipBit_append (pre b : Bytes) (k j : Nat) : flipBit (pre ++ b) (pre.length + k) j = pre ++ flipBit b k j :=
  List.modifyTailIdx_add _ k pre b

/-- A bit within the byte changes the byte. -/
theorem xor_bit_ne (x : Byte) {j : Nat} (hj : j < 8) : x ^^^ (1#8 <<< j) ≠ x := by
  intro h
  have hbit := congrArg (·.getLsbD j) h
  simp [hj] at hbit

theorem crcOf_ne_of_one_byte (pre suf : Bytes) {x y : Byte} (h : x ≠ y) :
    crcOf (pre ++ x :: suf) ≠ crcOf (pre ++ y :: suf) := by
  simpa only [crc16_eq_crcOf] using oneByteChangeChangesTheCrc pre suf x y h

/-- A flip in `T`, `C` or the data leaves a frame of as many bytes with the CRC of the fields that were, which is not that of
the fields that are. -/
theorem exists_frameBytes_of_flipped_field (t c : Byte) {data : Bytes} {k j : Nat} (crc : Word16)
    (hk : k < data.length + 2) (hj : j < 8) :
    ∃ t' c' data', flipBit (frameBytes t c data [] crc) (k + 2) j = frameBytes t' c' data' [] crc ∧
      data'.length = data.length ∧ frameCrc t' c' data' ≠ frameCrc t c data := by
  match k, hk with
  | 0, _ => exact ⟨_, c, data, rfl, rfl, crcOf_ne_of_one_byte [_] (c :: data) (xor_bit_ne t hj)⟩
  | 1, _ => exact ⟨t, _, data, rfl, rfl, crcOf_ne_of_one_byte [_, t] data (xor_bit_ne c hj)⟩
  | k + 2, hk =>
    obtain ⟨pre, x, suf, rfl, rfl, -⟩ := List.exists_of_modify (· ^^^ (1#8 <<< j)) (Nat.add_lt_add_iff_right.mp hk)
    have hlen (y : Byte) : (pre ++ y :: suf).length = (pre ++ x :: suf).length := by
      rw [List.length_append, List.length_append]
      rfl
    refine ⟨t, c, pre ++ (x ^^^ (1#8 <<< j)) :: suf, ?_, hlen _, ?_⟩
    · simp only [frameBytes_eq_layout, layout, hlen, List.append_nil, List.append_assoc]
      exact flipBit_append (0xAA#8 :: _ :: t :: c :: pre) _ 0 j
    · rw [frameCrc, frameCrc, hlen]
      exact crcOf_ne_of_one_byte (_ :: t :: c :: pre) suf (xor_bit_ne x hj)

/-- A flip in the last three bytes leaves those before them. -/
theorem flipBit_layout_end (start l t c hi lo stop : Byte) (mid : Bytes) (k j : Nat) :
    flipBit (layout start l t c mid hi lo stop) (mid.length + 4 + k) j =
      start :: l :: t :: c :: (mid ++ flipBit [hi, lo, stop] k j) :=
  flipBit_append (start :: l :: t :: c :: mid) [hi, lo, stop] k j

/-- A CRC field with a byte changed is another CRC. -/
theorem crc_ne_of_byte {crc : Word16} {hi lo : Byte} (h : hi ≠ (crc >>> 8).setWidth 8 ∨ lo ≠ crc.setWidth 8) :
    crc ≠ hi ++ lo := by
  rintro rfl
  rw [crc_high_byte, crc_low_byte] at h
  exact h.elim (absurd rfl) (absurd rfl)

theorem answerInstr_deframe_of_changed_crc (t c : Byte) {data : Bytes} {hi lo : Byte} (h : data.length ≤ 252)
    (hne : hi ≠ (frameCrc t c data >>> 8).setWidth 8 ∨ lo ≠ (frameCrc t c data).setWidth 8) :
    answerInstr .deframe (layout 0xAA#8 (BitVec.ofNat 8 (3 + data.length)) t c data hi lo 0xFF#8) =
      errorOf .integrityError := by
  have hframe := answerInstr_deframe_frameBytes (t := t) (c := c) [] (hi ++ lo) h
  rwa [frameBytes_eq_layout, List.append_nil, crc_high_byte, crc_low_byte, if_neg (crc_ne_of_byte hne)] at hframe

theorem answerInstr_deframe_of_flipped_sentinel (t c : Byte) {data : Bytes} {k j : Nat} (hj : j < 8)
    (hk : k = 0 ∨ k = data.length + 6) :
    answerInstr .deframe (flipBit (builtFrame t c data) k j) = errorOf .badSentinel := by
  rw [builtFrame_eq_layout]
  obtain rfl | rfl := hk
  · exact answerInstr_deframe_of_badSentinel _ t c _ _ data (.inl (xor_bit_ne _ hj))
  · rw [flipBit_layout_end _ _ _ _ _ _ _ data 2]
    exact answerInstr_deframe_of_badSentinel _ t c _ _ data (.inr (xor_bit_ne _ hj))

theorem answerInstr_deframe_of_flipped_field (t c : Byte) {data : Bytes} {k j : Nat} (hlen : data.length ≤ 252)
    (hj : j < 8) (hk : k < data.length + 2) :
    answerInstr .deframe (flipBit (builtFrame t c data) (k + 2) j) = errorOf .integrityError := by
  obtain ⟨t', c', data', hflip, hlen', hne⟩ := exists_frameBytes_of_flipped_field t c (frameCrc t c data) hk hj
  rw [builtFrame, hflip, answerInstr_deframe_frameBytes [] _ (hlen' ▸ hlen), if_neg hne]

theorem answerInstr_deframe_of_flipped_crc (t c : Byte) {data : Bytes} {k j : Nat} (hlen : data.length ≤ 252)
    (hj : j < 8) (hk : k < 2) :
    answerInstr .deframe (flipBit (builtFrame t c data) (data.length + 4 + k) j) = errorOf .integrityError := by
  rw [builtFrame_eq_layout, flipBit_layout_end]
  match k, hk with
  | 0, _ => exact answerInstr_deframe_of_changed_crc t c hlen (.inl (xor_bit_ne _ hj))
  | 1, _ => exact answerInstr_deframe_of_changed_crc t c hlen (.inr (xor_bit_ne _ hj))

/-- A frame with another byte in the place of `L`: out of range, or the CRC of the bytes it covers decides. -/
theorem answerInstr_deframe_of_changed_length (t c : Byte) {data b : Bytes} {l : Byte}
    (hb : b = layout 0xAA#8 l t c data ((frameCrc t c data >>> 8).setWidth 8) ((frameCrc t c data).setWidth 8) 0xFF#8) :
    ((l.toNat < 3 ∨ 3 + data.length < l.toNat) → answerInstr .deframe b = errorOf .lengthMismatch) ∧
      ((3 ≤ l.toNat ∧ l.toNat ≤ 3 + data.length) →
        if crcOf ((b.drop 1).take l.toNat) = frameCrc t c data then
          answerInstr .deframe b = packetResponse t c (data.take (l.toNat - 3)) (data.take (l.toNat - 3))
        else answerInstr .deframe b = errorOf .integrityError) := by
  subst hb
  rw [Nat.add_comm 3]
  refine ⟨answerInstr_deframe_of_lengthMismatch t c _ _, ?_⟩
  rintro ⟨hlow, hhigh⟩
  rw [answerInstr_deframe_of_lengthInRange t c _ _ hlow hhigh, crc_bytes_append]
  split
  · rfl
  · rfl

/-- The frame of 95_test_vectors.md with `L` flipped from 5 to 4: the CRC of the shorter input is the same. -/
theorem answerInstr_deframe_of_colliding_length :
    answerInstr .deframe (flipBit (builtFrame 0#8 0#8 [0x77#8, 0xF1#8]) 1 0) = packetResponse 0#8 0#8 [0x77#8] [0x77#8] := by
  have hcrc : crcOf [4#8, 0#8, 0#8, 0x77#8] = frameCrc 0#8 0#8 [0x77#8, 0xF1#8] := by decide
  obtain ⟨-, hinRange⟩ := answerInstr_deframe_of_changed_length (l := 4#8) 0#8 0#8 (data := [0x77#8, 0xF1#8]) rfl
  exact (if_pos hcrc).mp (hinRange (by decide))

/-- Settles O51: the flipped byte is a sentinel, a byte the CRC covers, a byte of the CRC, or `L`. A flip that decodes
is the collision of 95_test_vectors.md. -/
theorem oneFlippedBitOutcomes : Obligations.OneFlippedBitOutcomes := by
  constructor
  · intro t c data k j s hlen _ hj hpayload
    refine ⟨_, answers_of_answerInstr (congrArg _ hpayload), answerInstr_deframe_of_flipped_sentinel t c hj, ?_, ?_⟩
    · rintro ⟨hlow, hhigh⟩
      obtain ⟨k, rfl⟩ := Nat.exists_eq_add_of_le' hlow
      by_cases hfield : k < data.length + 2
      · exact answerInstr_deframe_of_flipped_field t c hlen hj hfield
      · obtain ⟨i, hi⟩ := Nat.exists_eq_add_of_le (Nat.not_lt.mp hfield)
        rw [show k + 2 = data.length + 4 + i by omega]
        exact answerInstr_deframe_of_flipped_crc t c hlen hj (by omega)
    · rintro rfl L' hL'
      have hlayout : s.payload = layout 0xAA#8 (BitVec.ofNat 8 (3 + data.length) ^^^ (1#8 <<< j)) t c data
          ((frameCrc t c data >>> 8).setWidth 8) ((frameCrc t c data).setWidth 8) 0xFF#8 := by
        rw [hpayload, frameBytes_eq_layout, List.append_nil]
        rfl
      rw [← hpayload]
      rw [hlayout] at hL'
      obtain rfl := Option.some.inj hL'
      exact answerInstr_deframe_of_changed_length t c hlayout
  · exact ⟨0#8, 0#8, [0x77#8, 0xF1#8], 0, { State.reset with
      request := some { word := 9#64, payload := flipBit (builtFrame 0#8 0#8 [0x77#8, 0xF1#8]) 1 0 } },
      by decide, by decide, rfl, _, answers_of_answerInstr answerInstr_deframe_of_colliding_length, rfl⟩

/-! ### Two frames in one payload (43_framer.md R196) -/

/-- The first frame's fields, the second one's CRC field, and what stands between them as slack. -/
theorem frameBytes_append (t c t' c' : Byte) (data data' : Bytes) (crc crc' : Word16) :
    ∃ slack, frameBytes t c data [] crc ++ frameBytes t' c' data' [] crc' = frameBytes t c data slack crc' :=
  ⟨(crc >>> 8).setWidth 8 :: crc.setWidth 8 :: 0xFF#8 :: 0xAA#8 :: BitVec.ofNat 8 (3 + data'.length) :: t' :: c' :: data',
    by simp [frameBytes]⟩

/-- Settles O52: DEFRAME reads no slack, so the second frame counts by its CRC alone. -/
theorem backToBackFramesReadAsOne : Obligations.BackToBackFramesReadAsOne := by
  intro t c t' c' data data' s hlen _ hpayload
  obtain ⟨slack, hslack⟩ := frameBytes_append t c t' c' data data' (frameCrc t c data) (frameCrc t' c' data')
  refine answers_of_answerInstr ?_
  rw [hpayload, hslack]
  exact answerInstr_deframe_frameBytes slack _ hlen

/-! ### The source's boundary cases (43_framer.md R200) -/

theorem answerInstr_decode_of_start_AB :
    answerInstr .decode (ascii "AB 03 00 00 00 CC 1D FF") = errorOf .badSentinel := by
  have hline : ascii "AB 03 00 00 00 CC 1D FF" = hexLine (layout 0xAB#8 3#8 0#8 0#8 [0#8] 0xCC#8 0x1D#8 0xFF#8) := by decide
  rw [hline, answerInstr_decode_hexLine]
  exact answerInstr_deframe_of_badSentinel _ _ _ _ _ _ (.inl (by decide))

theorem answerInstr_decode_of_stop_EE :
    answerInstr .decode (ascii "AA 03 00 00 00 CC 1D EE") = errorOf .badSentinel := by
  have hline : ascii "AA 03 00 00 00 CC 1D EE" = hexLine (layout 0xAA#8 3#8 0#8 0#8 [0#8] 0xCC#8 0x1D#8 0xEE#8) := by decide
  rw [hline, answerInstr_decode_hexLine]
  exact answerInstr_deframe_of_badSentinel _ _ _ _ _ _ (.inr (by decide))

/-- `ZZ` is a token, and no byte's. -/
theorem answerInstr_decode_of_token_ZZ :
    answerInstr .decode (ascii "AA ZZ 00 00 00 CC 1D FF") = errorOf .malformedToken := by
  have htoken : ascii "ZZ" ∈ tokens (ascii "AA ZZ 00 00 00 CC 1D FF") := by decide
  exact answerInstr_decode_of_malformed (hexToks_eq_none_iff.mpr ⟨_, htoken, hexTok_eq_none_iff.mp (by decide)⟩)

/-- Settles O54, case by case. -/
theorem boundaryCasesOfTheSource : Obligations.BoundaryCasesOfTheSource := by
  refine ⟨fun s hs => ?_, fun s hs => ?_, fun s hs => ?_, fun s hs => ?_, fun t d bus s hs => ?_, fun t d bus s hs => ?_,
    fun s hs => ?_⟩
  · refine answers_of_answerInstr ?_
    rw [hs, answerInstr_decode_of_bytes rfl]
    exact answerInstr_deframe_of_short (by decide)
  · exact answers_of_answerInstr (hs ▸ answerInstr_decode_of_start_AB)
  · exact answers_of_answerInstr (hs ▸ answerInstr_decode_of_stop_EE)
  · exact answers_of_answerInstr (hs ▸ answerInstr_decode_of_token_ZZ)
  · exact answers_of_answerInstr (answerInstr_encode_of_overflow t d bus (by omega))
  · refine ⟨_, answers_of_answerInstr (answerInstr_encode_of_fits t d bus hs.le), rfl, ?_⟩
    rw [packetResponse, hs]
    rfl
  · refine ⟨_, answers_of_answerInstr (answerInstr_encode_of_fits 0#8 0#1 0#8 (by rw [hs]; decide)), rfl, ?_⟩
    rw [packetResponse, hs]
    decide

end Sys2Proof.Proofs.Framer

/-! SUPPORT. Family 60_exceptions.md: what stops a step and what an idle block does (R240, R249), one request at a time (R254),
an error response carries its kind alone (R246), and the kinds each operation raises (R241). -/

namespace Sys2Proof.Proofs.Exceptions

open Sys2Proof Sys2Proof.Machine Sys2Proof.Claims Sys2Proof.Proofs.Scope Sys2Proof.Proofs.Stateless Sys2Proof.Proofs.Memory
  Sys2Proof.Proofs.Encoding Sys2Proof.Proofs.Hex Sys2Proof.Proofs.Framer

/-! ### Steps without a transaction, and the interface (60_exceptions.md R249, R254) -/

theorem step_of_reset {s : State} (hp : s.resetPending = true) : step s = .next s.applyReset := if_pos hp

theorem step_of_idle {s : State} (hp : s.resetPending = false) (hr : s.request = none) : step s = .next s := by
  simp only [step, State.stepOnce, hp, hr, Bool.false_eq_true, if_false]

/-- Settles O16: a step with neither a reset nor a request is no transaction. -/
theorem idleBlockDoesNothing : Obligations.IdleBlockDoesNothing := fun _ => step_of_idle

theorem issue_of_inFlight {s : State} {r' : Request} (r : Request) (h : s.request = some r') : s.issue r = none := by
  simp only [State.issue, h]

theorem issue_of_idle {s : State} (r : Request) (h : s.request = none) :
    s.issue r = some { s with request := some r, response := none } := by
  simp only [State.issue, h]

/-- Settles O18: issuing writes the request and the response slot, and nothing else. -/
theorem oneRequestAtATime : Obligations.OneRequestAtATime :=
  fun _ r => ⟨fun _ => issue_of_inFlight r, fun hidle => ⟨_, issue_of_idle r hidle, rfl, rfl, rfl, rfl⟩⟩

/-! ### What stops a step (60_exceptions.md R240, R245) -/

theorem exists_overlong_of_not_payloadHeld {s : State} (h : ¬ PayloadHeld s) :
    ∃ r m, s.request = some r ∧ s.payloadMax = some m ∧ m < r.payload.length := by
  obtain ⟨r, hr, hfits⟩ : ∃ r, s.request = some r ∧ ¬ payloadFits s.payloadMax r.payload = true := by
    simpa only [PayloadHeld, not_forall, exists_prop] using h
  cases hm : s.payloadMax with
  | none => exact absurd (by rw [hm]; rfl) hfits
  | some m => exact ⟨r, m, hr, rfl, by simpa [payloadFits, hm] using hfits⟩

/-- Settles O14: a request over PAYLOAD_MAX is still abandoned by a waiting reset, and answered IllegalOp when its word spells
no operation; what is left is the refusal. -/
theorem onlyOverlongPayloadStopsAStep : Obligations.OnlyOverlongPayloadStopsAStep := by
  intro s
  by_cases hheld : PayloadHeld s
  · exact .inl (stepsOn_of_payloadHeld hheld)
  obtain ⟨r, m, hr, hm, hlen⟩ := exists_overlong_of_not_payloadHeld hheld
  cases hp : s.resetPending with
  | true => exact .inl ⟨_, step_of_reset hp⟩
  | false =>
    cases hd : decode r.word with
    | error e =>
      obtain ⟨t, ht, -⟩ := step_of_decode_error hp hr hd
      exact .inl ⟨t, ht⟩
    | ok i =>
      have hword : requestWordOk r.word = true := (wordDecodesIffWellFormed r.word).mp ⟨i, hd⟩
      exact .inr ⟨r, m, rfl, hr, hword, hm, hlen, step_of_overlong hp hr hd hm hlen⟩

/-! ### Error responses (60_exceptions.md R246) -/

/-- Of the or of the shifted fields only the status code is left. -/
theorem word_errorOf (e : ErrorKind) : (errorOf e).word = e.code.setWidth 64 := by
  simp [word_eq_or, errorOf, Status.code]

theorem error_of_responseLegal {rsp : Response} {e : ErrorKind} (h : ResponseLegal rsp) (he : rsp.status = .error e) :
    rsp.word = e.code.setWidth 64 ∧ rsp = errorOf e := by
  obtain ⟨herror, -⟩ := h
  obtain rfl : rsp = errorOf e := herror e he
  exact ⟨word_errorOf e, rfl⟩

theorem responseLegal_of_exec {i : Instr} {s t : State} {rsp : Response} (hexec : exec i s = .next t)
    (hrsp : t.response = some rsp) : ResponseLegal rsp := by
  rw [exec_eq_respond] at hexec
  cases hexec
  obtain rfl : answerInstr i s.payload = rsp := Option.some.inj hrsp
  exact responseLegal_answerInstr i s.payload

/-- Whatever response stood in the state before, the one a transaction delivers is legal. -/
theorem responseLegal_of_step {s t : State} {r : Request} {rsp : Response} (hr : s.request = some r)
    (hstep : step s = .next t) (hrsp : t.response = some rsp) : ResponseLegal rsp := by
  obtain ⟨-, rfl⟩ | ⟨-, hnone, -⟩ | ⟨-, _, e, -, -, rfl⟩ | ⟨-, _, i, -, -, -, hexec⟩ := step_next_cases hstep
  · cases hrsp
  · cases hr.symm.trans hnone
  · exact Option.some.inj hrsp ▸ responseLegal_ofError .illegalOp
  · exact responseLegal_of_exec hexec hrsp

/-- Settles O25: every response a transaction delivers is legal, and a legal response with an error status is its kind's. -/
theorem errorResponseCarriesOnlyItsKind : Obligations.ErrorResponseCarriesOnlyItsKind :=
  ⟨fun _ _ _ _ _ hr hstep hrsp => error_of_responseLegal (responseLegal_of_step hr hstep hrsp),
    fun _ _ _ _ _ hexec hrsp => error_of_responseLegal (responseLegal_of_exec hexec hrsp)⟩

/-! ### The kinds an operation raises: no other (60_exceptions.md R241) -/

/-- A response whose error, if it is one, is of one of these kinds. -/
def ErrorIn (kinds : List ErrorKind) (rsp : Response) : Prop := ∀ e, rsp.status = .error e → e ∈ kinds

theorem errorIn_of_ok (kinds : List ErrorKind) {rsp : Response} (hok : rsp.status = .ok) : ErrorIn kinds rsp :=
  fun _ he => nomatch hok.symm.trans he

theorem errorIn_errorOf {kinds : List ErrorKind} {e : ErrorKind} (h : e ∈ kinds) : ErrorIn kinds (errorOf e) :=
  fun _ he => Status.error.inj he ▸ h

theorem errorIn_hexdecToken (p : Bytes) : ErrorIn (raises .hexdecToken) (answerInstr .hexdecToken p) := by
  obtain ⟨v, -, h⟩ | ⟨-, h⟩ := answerInstr_hexdecToken p
  · exact errorIn_of_ok _ (by rw [h])
  · exact h ▸ errorIn_errorOf (by decide)

theorem errorIn_hexdecLine (p : Bytes) : ErrorIn (raises .hexdecLine) (answerInstr .hexdecLine p) := by
  obtain ⟨b, -, h⟩ | ⟨-, h⟩ := answerInstr_hexdecLine p
  · exact errorIn_of_ok _ (by rw [h])
  · exact h ▸ errorIn_errorOf (by decide)

theorem errorIn_frame (t : Byte) (d : BitVec 1) (bus : Byte) (p : Bytes) :
    ErrorIn (raises (.frame t d bus)) (answerInstr (.frame t d bus) p) := by
  by_cases h : p.length ≤ 252
  · exact errorIn_of_ok _ (by rw [answerInstr_frame_of_fits t d bus h]; rfl)
  · rw [answerInstr_frame_of_overflow t d bus h]
    exact errorIn_errorOf (List.mem_singleton_self _)

/-- ENCODE's status is FRAME's. -/
theorem errorIn_encode (t : Byte) (d : BitVec 1) (bus : Byte) (p : Bytes) :
    ErrorIn (raises (.encode t d bus)) (answerInstr (.encode t d bus) p) := by
  rw [answerInstr_encode]
  exact errorIn_frame t d bus p

/-- Along DEFRAME's checks in their order (43_framer.md R193). -/
theorem errorIn_deframe (b : Bytes) : ErrorIn (raises .deframe) (answerInstr .deframe b) := by
  by_cases hshort : b.length < 7
  · rw [answerInstr_deframe_of_short hshort]
    exact errorIn_errorOf (by decide)
  obtain ⟨start, l, t, c, mid, hi, lo, stop, rfl⟩ := exists_layout_of_length (Nat.not_lt.mp hshort)
  by_cases hsentinels : start ≠ 0xAA#8 ∨ stop ≠ 0xFF#8
  · rw [answerInstr_deframe_of_badSentinel l t c hi lo mid hsentinels]
    exact errorIn_errorOf (by decide)
  obtain ⟨rfl, rfl⟩ : start = 0xAA#8 ∧ stop = 0xFF#8 := by simpa using hsentinels
  by_cases hlength : l.toNat < 3 ∨ mid.length + 3 < l.toNat
  · rw [answerInstr_deframe_of_lengthMismatch t c hi lo hlength]
    exact errorIn_errorOf (by decide)
  obtain ⟨hlow, hhigh⟩ := not_or.mp hlength
  rw [answerInstr_deframe_of_lengthInRange t c hi lo (Nat.not_lt.mp hlow) (Nat.not_lt.mp hhigh)]
  split
  · exact errorIn_of_ok _ rfl
  · exact errorIn_errorOf (by decide)

/-- DECODE's kinds are MalformedToken and DEFRAME's (43_framer.md R196). -/
theorem raises_decode : raises .decode = .malformedToken :: raises .deframe := rfl

theorem errorIn_decode (p : Bytes) : ErrorIn (raises .decode) (answerInstr .decode p) := by
  rw [raises_decode]
  cases h : hexBytes p with
  | none =>
    rw [answerInstr_decode_of_malformed h]
    exact errorIn_errorOf List.mem_cons_self
  | some b =>
    rw [answerInstr_decode_of_bytes h]
    exact fun e he => List.mem_cons_of_mem _ (errorIn_deframe b e he)

theorem errorIn_answerInstr (i : Instr) (p : Bytes) : ErrorIn (raises i) (answerInstr i p) := by
  cases i with
  | hexdecToken => exact errorIn_hexdecToken p
  | hexdecLine => exact errorIn_hexdecLine p
  | frame t d bus => exact errorIn_frame t d bus p
  | deframe => exact errorIn_deframe p
  | encode t d bus => exact errorIn_encode t d bus p
  | decode => exact errorIn_decode p
  | _ => exact errorIn_of_ok _ rfl

/-! ### The kinds an operation raises: each of them (60_exceptions.md R241) -/

/-- DATA_MAX and one more byte. -/
theorem not_fits_253 : ¬ (List.replicate 253 (0#8 : Byte)).length ≤ 252 := by
  rw [List.length_replicate]
  decide

/-- `ZZ` spells no byte. -/
theorem hexBytes_ZZ : hexBytes (ascii "ZZ") = none := by decide

theorem answerInstr_hexdecLine_of_malformed {p : Bytes} (h : hexBytes p = none) :
    answerInstr .hexdecLine p = errorOf .malformedToken := by
  simp only [answerInstr, h]
  rfl

/-- An empty frame with CRC 0; the CRC of its fields is 0xCC1D (40_crc.md R126). -/
theorem answerInstr_deframe_of_crc_zero :
    answerInstr .deframe (frameBytes 0#8 0#8 [] [] 0#16) = errorOf .integrityError := by
  have hcrc : frameCrc 0#8 0#8 [] ≠ 0#16 := by decide
  rw [answerInstr_deframe_frameBytes [] 0#16 (Nat.zero_le _), if_neg hcrc]

theorem exists_frame_raising {e : ErrorKind} (h : e ∈ raises .deframe) : ∃ b, answerInstr .deframe b = errorOf e := by
  obtain rfl | rfl | rfl | rfl :
      e = .frameTooShort ∨ e = .badSentinel ∨ e = .lengthMismatch ∨ e = .integrityError := by simpa [raises] using h
  · exact ⟨[], answerInstr_deframe_of_short (by decide)⟩
  · exact ⟨layout 0#8 3#8 0#8 0#8 [] 0#8 0#8 0#8, answerInstr_deframe_of_badSentinel _ _ _ _ _ _ (.inl (by decide))⟩
  · exact ⟨layout 0xAA#8 2#8 0#8 0#8 [] 0#8 0#8 0xFF#8, answerInstr_deframe_of_lengthMismatch _ _ _ _ (.inl (by decide))⟩
  · exact ⟨_, answerInstr_deframe_of_crc_zero⟩

theorem exists_payload_raising {i : Instr} {e : ErrorKind} (h : e ∈ raises i) : ∃ p, answerInstr i p = errorOf e := by
  cases i with
  | hexdecToken =>
    obtain rfl := List.mem_singleton.mp h
    exact ⟨[], rfl⟩
  | hexdecLine =>
    obtain rfl := List.mem_singleton.mp h
    exact ⟨_, answerInstr_hexdecLine_of_malformed hexBytes_ZZ⟩
  | frame t d bus =>
    obtain rfl := List.mem_singleton.mp h
    exact ⟨_, answerInstr_frame_of_overflow t d bus not_fits_253⟩
  | deframe => exact exists_frame_raising h
  | encode t d bus =>
    obtain rfl := List.mem_singleton.mp h
    exact ⟨_, answerInstr_encode_of_overflow t d bus not_fits_253⟩
  | decode =>
    obtain rfl | hframe := List.mem_cons.mp h
    · exact ⟨_, answerInstr_decode_of_malformed hexBytes_ZZ⟩
    · obtain ⟨b, hb⟩ := exists_frame_raising hframe
      exact ⟨hexLine b, (answerInstr_decode_hexLine b).trans hb⟩
  | _ => cases h

/-- After reset, with a request for the operation in flight. -/
def requesting (i : Instr) (p : Bytes) : State :=
  { State.reset with request := some { word := encode i, payload := p } }

theorem payload_requesting (i : Instr) (p : Bytes) : (requesting i p).payload = p := rfl

/-- Settles O26: an operation's pure response is of its kinds, and a payload that raises a kind does so in the state that
requests it. -/
theorem operationsRaiseExactlyTheirKinds : Obligations.OperationsRaiseExactlyTheirKinds := by
  intro i
  refine ⟨fun s => ⟨_, registerMachineRefinesPureFunctions i s, errorIn_answerInstr i s.payload⟩, fun e he => ?_⟩
  obtain ⟨p, hp⟩ := exists_payload_raising he
  exact ⟨requesting i p, answers_of_answerInstr (by rw [payload_requesting, hp])⟩

end Sys2Proof.Proofs.Exceptions

/-! SUPPORT. Family 70_reset_and_hazards.md: the state right after reset (R270), a reset that arrives during a request (R271), the
first request after reset (R272), and what becomes of every request (R275). -/

namespace Sys2Proof.Proofs.Reset

open Sys2Proof Sys2Proof.Machine Sys2Proof.Claims Sys2Proof.Proofs.Stateless Sys2Proof.Proofs.Memory Sys2Proof.Proofs.Exceptions

/-! ### Reset (70_reset_and_hazards.md R270, R271) -/

/-- Settles O24: PAYLOAD_MAX is unbounded, no response stands at the interface, and the working values are idle. -/
theorem resetIsLegal : Obligations.ResetIsLegal := by
  have hmax : payloadMaxLegal State.reset.payloadMax = true := by rw [State.reset_payloadMax]; rfl
  have hrsp : ∀ r, State.reset.response = some r → ResponseLegal r := by simp [State.reset_response]
  exact ⟨hmax, hrsp, State.reset_work⟩

/-- Serving a reset keeps PAYLOAD_MAX and nothing else of the state. -/
theorem applyReset_eq_reset (s : State) : s.applyReset = { State.reset with payloadMax := s.payloadMax } := rfl

/-- Settles O15: the step looks at a waiting reset before it looks at the request. -/
theorem resetAbandonsTheRequestInFlight : Obligations.ResetAbandonsTheRequestInFlight :=
  fun s hp => applyReset_eq_reset s ▸ step_of_reset hp

/-! ### The requests (70_reset_and_hazards.md R272, R275) -/

/-- A request issued to an idle block with no reset waiting is in flight when its payload is within PAYLOAD_MAX. -/
theorem exists_inFlight_of_issue {s : State} {r : Request} (hp : s.resetPending = false) (hidle : s.request = none)
    (hfits : payloadFits s.payloadMax r.payload = true) : ∃ held, s.issue r = some held ∧ InFlight held r :=
  ⟨_, issue_of_idle r hidle, hp, rfl, hfits⟩

/-- Settles O17: after reset the block is idle and PAYLOAD_MAX unbounded, so the request is in flight and its step answers it. -/
theorem firstRequestAfterResetIsAnswered : Obligations.FirstRequestAfterResetIsAnswered := by
  intro r
  have hfits : payloadFits State.reset.payloadMax r.payload = true := by rw [State.reset_payloadMax]; rfl
  obtain ⟨held, hissue, hheld⟩ := exists_inFlight_of_issue State.reset_resetPending State.reset_request hfits
  obtain ⟨t, hstep, hrsp, hdone, -, -⟩ := step_answers hheld
  exact ⟨held, t, hissue, hstep, hrsp, hdone⟩

/-- Settles O12: a request in flight gets its pure response, a waiting reset empties the interface, and an over-long payload of
an operation is refused. -/
theorem everyRequestGetsOneResponse : Obligations.EveryRequestGetsOneResponse := by
  refine ⟨fun s r hheld => ?answered, fun s r hp _ => ?abandoned, fun s r i m hp hr hd hm hlen => ?refused⟩
  case answered => exact ⟨answer r, step_answers hheld⟩
  case abandoned => exact ⟨s.applyReset, step_of_reset hp, s.applyReset_request, s.applyReset_response⟩
  case refused => exact step_of_overlong hp hr hd hm hlen

end Sys2Proof.Proofs.Reset
